-- ==== Sys2Proof/Word.lean ====
section
/-! DEFINITION. The vocabulary of the evaluator: widths of the numbers it handles as bits, the names of links, directions,
notices and requests, and the operands that commands carry. Plain data only; what the names mean is in Machine/. -/

namespace Sys2Proof

/-- One byte of a telegram (R161). -/
abbrev Byte := BitVec 8

/-- The Timebase millisecond stamp, 0 to 65535, from 65535 to 0 (R1). -/
abbrev Stamp := BitVec 16

/-- An image signature (R146). -/
abbrev Signature := BitVec 32

/-- A detection point, DP0 to DP31 (00 section 4.2). -/
abbrev DP := Fin 32

/-- A track section, S0 to S23 (00 section 4.3). -/
abbrev SectNo := Fin 24

/-- The two supervisory links (00 section 2.1). -/
inductive SupLink where
  | sl0
  | sl1
  deriving DecidableEq, Repr

/-- The other supervisory link. -/
def SupLink.other : SupLink → SupLink
  | .sl0 => .sl1
  | .sl1 => .sl0

/-- The three serial lines: two supervisory links and the service link (00 section 2.1). -/
inductive Link where
  | sup (l : SupLink)
  | svl
  deriving DecidableEq, Repr

/-- The two directions of a line, as the evaluator sees them (R159). -/
inductive Flow where
  | receive
  | transmit
  deriving DecidableEq, Repr

/-- The direction of an axle at its detection point (00 section 4.2). -/
inductive Dir where
  | n
  | r
  deriving DecidableEq, Repr

/-- The sense of a map term (R27). -/
inductive Sense where
  | inOnN
  | inOnR
  deriving DecidableEq, Repr

/-- The two kinds of reset (R100). -/
inductive ResetKind where
  | prep
  | direct
  deriving DecidableEq, Repr

/-- The ten notices of a supervisory link, in the order of their mask bits (R170, R174). -/
inductive Notice where
  | change
  | selected
  | ringHalf
  | ringGap
  | concurOpen
  | concurLapsed
  | headFault
  | halt
  | endorseLost
  | lineFault
  deriving DecidableEq, Repr

/-- What the HDU reads at one detection point at one sampling step (R2): true is damped, or active. -/
structure Sample where
  ch1 : Bool
  ch2 : Bool
  fault : Bool
  deriving DecidableEq, Repr

/-- One character as it stands on a line (R160): its data bits, its parity bit and the level of its stop bit. -/
structure Character where
  data : Byte
  parity : Bool
  stop : Bool
  deriving DecidableEq, Repr

/-- One term of a map entry (R27). -/
structure Term where
  sect : SectNo
  sense : Sense
  notify : Bool
  deriving DecidableEq, Repr

/-- A map entry: its terms, first to last; the term count is their number (R27). -/
structure MapEntry where
  terms : List Term
  deriving DecidableEq, Repr

/-- What the storage gives at one read of a map entry (R36): the entry and check code held, or something else (logs 10, 24). -/
inductive MapRead where
  | intact
  | altered (entry : MapEntry) (code : Byte)
  deriving DecidableEq, Repr

/-- What the storage gives at the reads of one scrub pass (R129): the image held, or another canonical sequence (logs 11, 24). -/
inductive ScrubRead where
  | intact
  | altered (canon : List Byte)
  deriving DecidableEq, Repr

/-- The ten global parameters, as an image holds them and as GLOBAL_ENTRY carries them (R144, R170). -/
structure Globals where
  settleBase : Nat
  qual : Nat
  minPassage : Nat
  minFree : Nat
  glitchLimit : Nat
  recovery : Nat
  concurWindow : Nat
  histExp : Nat
  softLimit : Nat
  scrubPeriod : Nat
  deriving DecidableEq, Repr

/-- The parameters of one supervisory link (R144, R170). -/
structure LinkParams where
  lineRate : Nat
  reportExp : Nat
  deriving DecidableEq, Repr

/-- One term as MAP_ENTRY carries it: the section byte is judged by the BMAP (R29, R170). -/
structure WireTerm where
  sect : Nat
  sense : Sense
  notify : Bool
  deriving DecidableEq, Repr

/-- The requests of a supervisory link with the fields they carry (R170). -/
inductive SupRequest where
  | resetPrep (sect : Nat)
  | resetDirect (sect : Nat)
  | resetCancel (sect : Nat)
  | sectionDetail (sect : Nat)
  | noticeAck (mask : BitVec 16)
  | noticeMask (mask : BitVec 16) (attention : Nat)
  | endorse (signature : Signature)
  | withdraw
  deriving DecidableEq, Repr

/-- The requests of the service link with the fields they carry (R170). -/
inductive SvcRequest where
  | loadBegin
  | loadStatus
  | loadIndex (table index : Nat)
  | mapEntry (dp : Nat) (terms : List WireTerm)
  | sectionEntry (supervision direct settleExt quiet : Nat)
  | globalEntry (g : Globals) (p0 p1 : LinkParams)
  | loadEnd
  | restart
  | headRead (dp : Nat)
  | haltRead
  deriving DecidableEq, Repr

end Sys2Proof
end

