-- ==== Sys2Proof/Syntax.lean ====
section
/-! DEFINITION. The commands of the evaluator, one constructor per row of spec/opcode_table.json, in the table's order. -/

namespace Sys2Proof

/-- The steps of the part (spec file 95). Events of the sensors and timers name the detection point, section or link they
concern. Requests name the link they come from and carry the fields of R170, each byte as a number; requests judged by the
service key carry the level of SVKEY at the moment they are taken (`key`, true is active; R148). -/
inductive Instr where
  | powerOn
  | qualifiedChange (dp : DP)
  | glitch (dp : DP)
  | bucketDrain
  | frontEndFault (dp : DP)
  | headRecovery (dp : DP)
  | unknownRecovery (dp : DP)
  | axleEvent (dp : DP) (read1 read2 : MapRead)
  | headClassChange (dp : DP)
  | settleExpiry (sect : SectNo)
  | historyPeriodExpiry
  | concurWindowExpiry (sect : SectNo)
  | scrubStart
  | scrubComplete (read : ScrubRead)
  | clockWindowEnd
  | startComplete
  | clearingComplete
  | verifyComplete
  | svkeyInactive
  | resetPrep (link : SupLink) (sect : Nat)
  | resetDirect (link : SupLink) (sect : Nat)
  | resetCancel (link : SupLink) (sect : Nat)
  | sectionDetail (link : SupLink) (sect : Nat)
  | noticeAck (link : SupLink) (mask : BitVec 16)
  | noticeMask (link : SupLink) (mask : BitVec 16) (attention : Nat)
  | endorse (link : SupLink) (signature : Signature)
  | withdraw (link : SupLink)
  | loadBegin (key : Bool)
  | loadStatus
  | loadIndex (key : Bool) (table index : Nat)
  | mapEntry (key : Bool) (dp : Nat) (terms : List WireTerm)
  | sectionEntry (key : Bool) (supervision direct settleExt quiet : Nat)
  | globalEntry (key : Bool) (g : Globals) (p0 p1 : LinkParams)
  | loadEnd (key : Bool)
  | restart (key : Bool)
  | headRead (dp : Nat)
  | haltRead
  | telegramEnd (link : Link)
  | responseStart (link : Link)
  | statusStart (link : SupLink)
  | eventsStart (link : SupLink)
  | transmitEnd (link : Link)
  | gapEnd (link : Link)
  | reportTimerExpiry (link : SupLink)
  | lineRateChange (link : SupLink) (flow : Flow)
  | noticeSet (link : SupLink) (notice : Notice)
  | attnPulseEnd (link : SupLink)
  | samplingStep (inputs : Vector Sample 32)
  | characterReceived (link : Link) (char : Character)
  deriving DecidableEq, Repr

end Sys2Proof
end

