-- ==== Sys2Proof/Decode.lean ====
section
/-! DEFINITION. The decoder over the rows of spec/opcode_table.json that give bits: no row does (log 23). The telegrams that carry
requests are not words of the table; they are parsed by Machine/Operands.lean. -/

namespace Sys2Proof

/-- The command that a word spells by the table's bits. Every row of the table has an empty field list and no fixed bits, so no word
spells a command (log 23). -/
def decodeTableWord (_nbits _w : Nat) : Option Instr := none

end Sys2Proof
end

