-- ==== Sys2Proof/Config.lean ====
section
/-! DEFINITION. The free values of the model: choices that the spec leaves to the hardware. None has a body. -/

namespace Sys2Proof

/-- DESIGN CHOICE (log 12). Whether the commit of a legal image had completed when power was lost in VERIFYING: R154 says that the
store then holds either the old image or the new one, and not which. The argument is State.free, a fresh index each time. -/
opaque Config.commitReached : Nat → Bool

end Sys2Proof
end

