-- ==== Sys2Proof/Machine/Check.lean ====
section
/-! DEFINITION. The cyclic checks: the map entry check code (R33), the telegram CRC (R162) and the image signature (R146) are one
computation over three widths. -/

namespace Sys2Proof.Machine

/-- A number from 0 to 255 as a byte. -/
def byte (n : Nat) : Byte := BitVec.ofNat 8 n

/-- One step of a check register (R33, R146, R162). -/
def crcShift {w : Nat} (poly reg : BitVec w) : BitVec w :=
  if reg.msb then (reg <<< 1) ^^^ poly else reg <<< 1

/-- One number taken into a check register: combined with its eight most significant bits, then eight steps. -/
def crcByte {w : Nat} (poly reg : BitVec w) (b : Byte) : BitVec w :=
  Nat.repeat (crcShift poly) 8 (reg ^^^ (b.setWidth w <<< (w - 8)))

/-- A check register started at all ones and run over a sequence. -/
def crc {w : Nat} (poly : BitVec w) (canon : List Byte) : BitVec w :=
  canon.foldl (crcByte poly) (BitVec.allOnes w)

/-- The map entry check code, x^8 + x^2 + x + 1, not inverted (R33). -/
def checkCode (canon : List Byte) : Byte := crc 7#8 canon

/-- The telegram CRC, x^16 + x^12 + x^5 + 1, not inverted (R162). -/
def telegramCrc (body : List Byte) : BitVec 16 := crc 4129#16 body

/-- The signature of a canonical sequence: every bit of the register inverted at the end (R146). -/
def signatureOf (canon : List Byte) : Signature := ~~~ (crc 79764919#32 canon)

/-- A 16-bit number, high byte first (R161). -/
def bytes16 (x : BitVec 16) : List Byte := [x.extractLsb' 8 8, x.extractLsb' 0 8]

/-- A 32-bit number, high byte first (R161). -/
def bytes32 (x : BitVec 32) : List Byte :=
  [x.extractLsb' 24 8, x.extractLsb' 16 8, x.extractLsb' 8 8, x.extractLsb' 0 8]

end Sys2Proof.Machine
end

