-- ==== Sys2Proof/Machine/Image.lean ====
section
/-! DEFINITION. The configuration image: its contents, defaults and ranges (R144, R145), its canonical sequence and signature
(R33, R146), the legality of its map (R30) and the sets derived from it (R31, R32). -/

namespace Sys2Proof

/-- Defaults of the global parameters (R144). -/
def Globals.default : Globals where
  settleBase := 5
  qual := 5
  minPassage := 20
  minFree := 0
  glitchLimit := 8
  recovery := 3
  concurWindow := 20
  histExp := 2
  softLimit := 3
  scrubPeriod := 10

/-- Defaults of a link's parameters (R144). -/
def LinkParams.default : LinkParams := ⟨0, 7⟩

/-- A value below its range is raised to the lower bound and one above it lowered to the upper bound (R145). -/
def clampTo (lo hi n : Nat) : Nat := max lo (min hi n)

/-- The ranges of the global parameters (R144, R145). -/
def Globals.clamp (g : Globals) : Globals where
  settleBase := clampTo 1 50 g.settleBase
  qual := clampTo 1 31 g.qual
  minPassage := clampTo 1 255 g.minPassage
  minFree := clampTo 0 255 g.minFree
  glitchLimit := clampTo 2 31 g.glitchLimit
  recovery := clampTo 1 30 g.recovery
  concurWindow := clampTo 2 60 g.concurWindow
  histExp := clampTo 0 7 g.histExp
  softLimit := clampTo 1 15 g.softLimit
  scrubPeriod := clampTo 1 60 g.scrubPeriod

/-- The ranges of a link's parameters (R144, R145). -/
def LinkParams.clamp (p : LinkParams) : LinkParams := ⟨clampTo 0 3 p.lineRate, clampTo 4 9 p.reportExp⟩

/-- The global parameters in the order of the table of R144. -/
def Globals.toList (g : Globals) : List Nat :=
  [g.settleBase, g.qual, g.minPassage, g.minFree, g.glitchLimit, g.recovery, g.concurWindow, g.histExp, g.softLimit,
   g.scrubPeriod]

end Sys2Proof

namespace Sys2Proof.Machine

/-- Who supervises a section (R99). -/
inductive Supervision where
  | unused
  | sl0
  | sl1
  | shared
  deriving DecidableEq, Repr

/-- A section entry of the image (R144). -/
structure SectEntry where
  supervision : Supervision
  direct : Bool
  settleExt : Nat
  quiet : Nat
  deriving DecidableEq, Repr

/-- The working image (R144). -/
structure Image where
  globals : Globals
  params0 : LinkParams
  params1 : LinkParams
  sects : Vector SectEntry 24
  map : Vector MapEntry 32
  deriving DecidableEq, Repr

/-- A set of supervisory links (R32). -/
structure LinkSet where
  sl0 : Bool
  sl1 : Bool
  deriving DecidableEq, Repr

/-- The table an offending item stands in (R30). -/
inductive Table where
  | map
  | sect
  deriving DecidableEq, Repr

/-- Why an item offends (R30). -/
inductive Reason where
  | unusedSection
  | duplicateSection
  | noBoundary
  deriving DecidableEq, Repr

/-- The first offending item of a load (R30, R142). -/
structure Offence where
  table : Table
  index : Nat
  reason : Reason
  deriving DecidableEq, Repr

/-- Membership of a link in a set of links. -/
def LinkSet.has (x : LinkSet) : SupLink → Bool
  | .sl0 => x.sl0
  | .sl1 => x.sl1

def LinkSet.empty : LinkSet := ⟨false, false⟩

/-- A link supervises a section when the supervision names it or is SHARED (R99). -/
def Supervision.names : Supervision → SupLink → Bool
  | .unused, _ => false
  | .sl0, .sl0 => true
  | .sl0, .sl1 => false
  | .sl1, .sl0 => false
  | .sl1, .sl1 => true
  | .shared, _ => true

/-- Supervision codes (R144). -/
def Supervision.code : Supervision → Nat
  | .unused => 0
  | .sl0 => 1
  | .sl1 => 2
  | .shared => 3

/-- The supervision that a code names; a code above 3 names nothing (R145). -/
def Supervision.ofCode : Nat → Option Supervision
  | 0 => some .unused
  | 1 => some .sl0
  | 2 => some .sl1
  | 3 => some .shared
  | _ => none

/-- The DIRECT_PERMITTED value that a code names; a code above 1 names nothing (R144, R145). -/
def directOfCode : Nat → Option Bool
  | 0 => some false
  | 1 => some true
  | _ => none

/-- Defaults of a section entry (R144). -/
def SectEntry.default : SectEntry := ⟨.unused, false, 0, 0⟩

/-- The default image that power-on, RESTART and LOAD_BEGIN write (R144). -/
def Image.default : Image where
  globals := Globals.default
  params0 := LinkParams.default
  params1 := LinkParams.default
  sects := Vector.replicate 24 SectEntry.default
  map := Vector.replicate 32 ⟨[]⟩

/-- The ranges of a section entry's numbers (R144, R145). -/
def SectEntry.clamp (e : SectEntry) : SectEntry :=
  { e with settleExt := clampTo 0 15 e.settleExt, quiet := clampTo 0 8 e.quiet }

/-- Every value of the image lies in its range, and no entry holds more than four terms (R27, R144). -/
def Image.InRange (i : Image) : Prop :=
  i.globals.clamp = i.globals ∧ i.params0.clamp = i.params0 ∧ i.params1.clamp = i.params1 ∧
  (∀ k : SectNo, i.sects[k].clamp = i.sects[k]) ∧ ∀ d : DP, i.map[d].terms.length ≤ 4

/-- A link's parameters in an image. -/
def Image.params (i : Image) : SupLink → LinkParams
  | .sl0 => i.params0
  | .sl1 => i.params1

/-- The supervision of a section in an image. -/
def Image.supervision (i : Image) (k : SectNo) : Supervision := i.sects[k].supervision

/-- The flags number of a term (R33). -/
def flagsNumber (sense : Sense) (notify : Bool) : Nat :=
  (match sense with | .inOnN => 0 | .inOnR => 1) + (if notify then 2 else 0)

/-- The check sequence of a map entry (R33). -/
def checkSequence (d : DP) (e : MapEntry) : List Byte :=
  byte d.val :: byte e.terms.length :: e.terms.flatMap fun t => [byte t.sect.val, byte (flagsNumber t.sense t.notify)]

/-- The check code of a map entry (R33). -/
def entryCode (d : DP) (e : MapEntry) : Byte := checkCode (checkSequence d e)

/-- The four numbers of a section entry (R146). -/
def SectEntry.toList (e : SectEntry) : List Nat :=
  [e.supervision.code, if e.direct then 1 else 0, e.settleExt, e.quiet]

/-- The canonical sequence of an image (R146). -/
def Image.canonical (i : Image) : List Byte :=
  (i.globals.toList ++ [i.params0.lineRate, i.params0.reportExp, i.params1.lineRate, i.params1.reportExp]
    ++ (List.finRange 24).flatMap fun k => i.sects[k].toList).map byte
  ++ (List.finRange 32).flatMap fun d => checkSequence d i.map[d]

/-- The signature of an image (R146). -/
def Image.signature (i : Image) : Signature := signatureOf i.canonical

/-- The first term of an entry that breaks a condition of R30: UNUSED_SECTION before DUPLICATE_SECTION, the duplicate found at the
later of the two terms. `seen` holds the sections of the terms already judged. -/
def termsReason (i : Image) (seen : List SectNo) : List Term → Option Reason
  | [] => none
  | t :: ts =>
    if i.supervision t.sect = .unused then some .unusedSection
    else if t.sect ∈ seen then some .duplicateSection
    else termsReason i (t.sect :: seen) ts

/-- The bounding set of a section, in ascending order (R31). -/
def Image.boundingSet (i : Image) (k : SectNo) : List DP :=
  (List.finRange 32).filter fun d => i.map[d].terms.any fun t => t.sect = k

/-- The routing set of a detection point (R32). -/
def Image.routingSet (i : Image) (d : DP) : LinkSet where
  sl0 := i.map[d].terms.any fun t => (i.supervision t.sect).names .sl0
  sl1 := i.map[d].terms.any fun t => (i.supervision t.sect).names .sl1

/-- The judgement of R30: map entries DP0 to DP31, then section entries S0 to S23. -/
def Image.firstOffence (i : Image) : Option Offence :=
  ((List.finRange 32).findSome? fun d => (termsReason i [] i.map[d].terms).map fun r => ⟨.map, d.val, r⟩).or
    ((List.finRange 24).findSome? fun k =>
      if i.supervision k ≠ .unused ∧ i.boundingSet k = [] then some ⟨.sect, k.val, .noBoundary⟩ else none)

end Sys2Proof.Machine
end

