-- ==== Sys2Proof/Machine/State.lean ====
section
/-! DEFINITION. The state of the evaluator, block by block (00 section 2.2), the reasons a step can stop, and the state after
power-on. Plain data: no field has a function type. -/

namespace Sys2Proof.Machine

/-- The nine head states (R9). -/
inductive HeadState where
  | unknown
  | free
  | n1
  | n2
  | n3
  | r2
  | r3
  | r4
  | fault
  deriving DecidableEq, Repr

/-- The three classes a head's state falls into (R9). -/
inductive HeadClass where
  | free
  | notFree
  | fault
  deriving DecidableEq, Repr

/-- Causes of the most recent entry into FAULT (R16, 01 section 1.6). -/
inductive FaultCause where
  | none
  | interference
  | transition
  | tooFast
  | frontEnd
  deriving DecidableEq, Repr

/-- The axle event (R21). -/
structure AxleEvent where
  dp : DP
  dir : Dir
  stamp : Stamp
  deriving DecidableEq, Repr

/-- What a head hands to the Counting Engine: an axle event (R21) or a change of class (R22). -/
inductive HandedOn where
  | axle (e : AxleEvent)
  | classChange (c : HeadClass)
  deriving DecidableEq, Repr

/-- A head record (01 section 1.4). -/
structure Head where
  state : HeadState
  q1 : Bool
  q2 : Bool
  cand1 : Nat
  cand2 : Nat
  /-- raw level of CH1 at the latest sampling step (R2) -/
  raw1 : Bool
  raw2 : Bool
  /-- level of the front-end fault input at the latest sampling step (R2, R18) -/
  faultIn : Bool
  bucket : Nat
  /-- the step of the last departure from FREE (R10) -/
  passageStart : Option Nat
  /-- the step of the last counting return (R14) -/
  lastAxle : Option Nat
  /-- sampling steps for which the recovery condition has held (R19) -/
  recovery : Nat
  lastCause : FaultCause
  /-- handed on and not yet taken by the Counting Engine, oldest first (R62; log 22) -/
  outbox : List HandedOn
  deriving DecidableEq, Repr

/-- The six section states (R61). -/
inductive SectState where
  | clear
  | occupied
  | settling
  | disturbed
  | restoring
  | sweeping
  deriving DecidableEq, Repr

/-- Disturbance causes (R63). -/
inductive Cause where
  | none
  | start
  | notCounting
  | halt
  | underflow
  | saturation
  | headFault
  | sweepUnderflow
  deriving DecidableEq, Repr

/-- A section record (R60, R91). -/
structure Sect where
  state : SectState
  count : Nat
  cause : Cause
  causeDP : Option DP
  /-- settle timer: stopped, or running with the milliseconds elapsed (R65) -/
  settle : Option Nat
  /-- period flags, slot k in bit k (R91) -/
  flags : BitVec 8
  histStamp : BitVec 16
  deriving DecidableEq, Repr

/-- A pending reset record (R105). -/
structure PendingRecord where
  kind : ResetKind
  opener : SupLink
  /-- window timer: milliseconds since the record was opened (R107) -/
  elapsed : Nat
  deriving DecidableEq, Repr

/-- The seven evaluator modes (R142). -/
inductive Mode where
  | starting
  | unconfigured
  | loading
  | verifying
  | awaitEndorse
  | counting
  | halted
  deriving DecidableEq, Repr

/-- The load sub-state (R142). -/
inductive LoadSub where
  | none
  | clearing
  | filling
  deriving DecidableEq, Repr

/-- The content of the nonvolatile store (R142). -/
structure Stored where
  image : Image
  signature : Signature
  deriving DecidableEq, Repr

/-- The four halt causes (R134). -/
inductive HaltCause where
  | clockDeviation
  | mapHard
  | scrubMismatch
  | softLimit
  deriving DecidableEq, Repr

/-- The seventeen result codes (R169). -/
inductive Result where
  | accepted
  | pending
  | clamped
  | refusedMode
  | refusedRange
  | refusedNotSupervisor
  | refusedState
  | refusedDuplicate
  | refusedKindMismatch
  | refusedHead
  | refusedNotPermitted
  | refusedRecentTraffic
  | refusedNoRecord
  | refusedSignature
  | refusedLocked
  | refusedBusy
  | refusedKey
  deriving DecidableEq, Repr

/-- A response as the slot holds it (R166): the request kind, the result and the response data. -/
structure Response where
  kind : Byte
  result : Result
  data : List Byte
  deriving DecidableEq, Repr

/-- Receiver states; RECEIVING holds the bytes of the telegram in progress (R163). -/
inductive Receiver where
  | idle
  | receiving (held : List Byte)
  | discarding
  deriving DecidableEq, Repr

/-- Transmitter states; SENDING holds the characters of the telegram being sent, first to last (R160, R167). -/
inductive Transmitter where
  | idle
  | sending (chars : List Character)
  | gap
  deriving DecidableEq, Repr

/-- What every link controller holds (R163 to R168): rates in bit/s. -/
structure Line where
  rx : Receiver
  rxRate : Nat
  tx : Transmitter
  txRate : Nat
  slot : Option Response
  overrun : Bool
  lineFault : Bool
  deriving DecidableEq, Repr

/-- Attention modes (R175). -/
inductive AttnMode where
  | level
  | pulse
  deriving DecidableEq, Repr

/-- A record of an event ring (R177). -/
structure EventRecord where
  seq : Byte
  dp : DP
  dir : Dir
  stamp : Stamp
  deriving DecidableEq, Repr

/-- What a supervisory link controller holds (00 section 2.2, chapter 10). -/
structure Sup where
  line : Line
  /-- accepted, checked and handed to its owner, not yet taken (R165; logs 6, 34) -/
  handed : Option SupRequest
  reportTimer : Nat
  statusDue : Bool
  /-- the ten notices, by the bits of R170 -/
  notices : BitVec 10
  mask : BitVec 10
  attnMode : AttnMode
  /-- the ATTN output (R176) -/
  attn : Bool
  /-- a pulse in progress, in sampling steps (R176; log 18) -/
  pulse : Option Nat
  ring : List EventRecord
  seq : Byte
  gap : Bool
  /-- notices asked for by other blocks and not yet taken (R174; log 8) -/
  asked : List Notice
  deriving DecidableEq, Repr

/-- What the service link controller holds. -/
structure Svc where
  line : Line
  handed : Option SvcRequest
  deriving DecidableEq, Repr

/-- The state of the evaluator. -/
structure State where
  -- Timebase (R1)
  stepNo : Nat
  stamp : Stamp
  /-- a drain moment has come and is not yet taken (R7; log 28) -/
  drainDue : Bool
  -- Head Decoder Unit
  heads : Vector Head 32
  -- Boundary Map, derived (R31 to R34)
  bounding : Vector (List DP) 24
  routing : Vector LinkSet 32
  codes : Vector (Option Byte) 32
  -- Counting Engine
  sects : Vector Sect 24
  view : Vector HeadClass 32
  periodCounter : BitVec 16
  periodTimer : Nat
  -- Reset Concurrence Unit
  records : Vector (Option PendingRecord) 24
  -- Image Controller
  mode : Mode
  sub : LoadSub
  mapIndex : Nat
  sectIndex : Nat
  offending : Option Offence
  endorsed0 : Bool
  endorsed1 : Bool
  image : Image
  inForce : Option Signature
  store : Option Stored
  /-- milliseconds since the start-up, clearing or verifying operation in flight began (R147, R151, R154; log 28) -/
  opTimer : Nat
  -- Integrity Monitor
  softErrors : Nat
  /-- stopped at 0, or running with the milliseconds elapsed (R128) -/
  scrubTimer : Option Nat
  scrubPass : Bool
  clockTicks : Nat
  firstCause : Option HaltCause
  subCause : Option HaltCause
  -- Link Controllers
  lc0 : Sup
  lc1 : Sup
  lcs : Svc
  -- the service-key input as last seen (R148; log 7)
  svkey : Bool
  -- the model's own: index of the next free value (log 12), and the commands waiting, first in, first out
  free : Nat
  pending : List Instr
  deriving DecidableEq, Repr

/-- Reasons for a step to stop with a fault. No rule of the spec stops the evaluator: head faults, disturbances and halts are state
(R16, R63, R135), so there is none. -/
inductive Fault where
  deriving DecidableEq, Repr

/-- Reasons for a step to be refused. -/
inductive Refusal where
  /-- Raised by an arm of exec whose command has no meaning yet; safe. No arm raises it. -/
  | notModelled (mnemonic : String)
  deriving DecidableEq, Repr

/-- A head at power-on (R26); raw levels and fault input as log 14 says. -/
def Head.reset : Head where
  state := .unknown
  q1 := false
  q2 := false
  cand1 := 0
  cand2 := 0
  raw1 := false
  raw2 := false
  faultIn := false
  bucket := 0
  passageStart := none
  lastAxle := none
  recovery := 0
  lastCause := .none
  outbox := []

/-- A section record at power-on, RESTART, LOAD_BEGIN and image entry (R80, R98). -/
def Sect.reset : Sect where
  state := .disturbed
  count := 0
  cause := .start
  causeDP := none
  settle := none
  flags := 0#8
  histStamp := 0#16

/-- A line at power-on, at a given rate (R168). -/
def Line.reset (rate : Nat) : Line where
  rx := .idle
  rxRate := rate
  tx := .idle
  txRate := rate
  slot := none
  overrun := false
  lineFault := false

/-- A supervisory link controller at power-on (R168, R179). -/
def Sup.reset : Sup where
  line := Line.reset 19200
  handed := none
  reportTimer := 0
  statusDue := false
  notices := 0#10
  mask := 0#10
  attnMode := .level
  attn := false
  pulse := none
  ring := []
  seq := 0#8
  gap := false
  asked := []

/-- The service link controller at power-on (R168). -/
def Svc.reset : Svc := ⟨Line.reset 57600, none⟩

/-- The evaluator right after power-on (R142 and the rules each field cites). The store, which power-on keeps, is empty here
(DESIGN CHOICE, log 13). -/
def State.reset : State where
  stepNo := 0
  stamp := 0#16
  drainDue := false
  heads := Vector.replicate 32 Head.reset
  bounding := Vector.replicate 24 []
  routing := Vector.replicate 32 LinkSet.empty
  codes := Vector.replicate 32 none
  sects := Vector.replicate 24 Sect.reset
  view := Vector.replicate 32 .notFree
  periodCounter := 0#16
  periodTimer := 0
  records := Vector.replicate 24 none
  mode := .starting
  sub := .none
  mapIndex := 0
  sectIndex := 0
  offending := none
  endorsed0 := false
  endorsed1 := false
  image := Image.default
  inForce := none
  store := none
  opTimer := 0
  softErrors := 0
  scrubTimer := none
  scrubPass := false
  clockTicks := 0
  firstCause := none
  subCause := none
  lc0 := Sup.reset
  lc1 := Sup.reset
  lcs := Svc.reset
  svkey := false
  free := 0
  pending := []

end Sys2Proof.Machine
end

