-- ==== Sys2Proof/Machine/Codes.lean ====
section
/-! DEFINITION. The code tables: states, causes, modes, results and kinds as telegrams carry them (R9, R61, R63, R134, R169 to R171). -/

namespace Sys2Proof.Machine

/-- Head state codes (R9). -/
def HeadState.code : HeadState → Nat
  | .unknown => 0
  | .free => 1
  | .n1 => 2
  | .n2 => 3
  | .n3 => 4
  | .r2 => 5
  | .r3 => 6
  | .r4 => 7
  | .fault => 8

/-- Fault cause codes (01 section 1.6). -/
def FaultCause.code : FaultCause → Nat
  | .none => 0
  | .interference => 1
  | .transition => 2
  | .tooFast => 3
  | .frontEnd => 4

/-- Section state codes (R61). -/
def SectState.code : SectState → Nat
  | .clear => 0
  | .occupied => 1
  | .settling => 2
  | .disturbed => 3
  | .restoring => 4
  | .sweeping => 5

/-- Disturbance cause codes (R63). -/
def Cause.code : Cause → Nat
  | .none => 0
  | .start => 1
  | .notCounting => 2
  | .halt => 3
  | .underflow => 4
  | .saturation => 5
  | .headFault => 6
  | .sweepUnderflow => 7

/-- Halt cause codes, which are also the ranks, 1 the highest (R134). -/
def HaltCause.code : HaltCause → Nat
  | .clockDeviation => 1
  | .mapHard => 2
  | .scrubMismatch => 3
  | .softLimit => 4

/-- The halt cause record's code, 0 for NONE (R134). -/
def haltCode : Option HaltCause → Nat
  | none => 0
  | some c => c.code

/-- Mode codes (R169). -/
def Mode.code : Mode → Nat
  | .starting => 0
  | .unconfigured => 1
  | .loading => 2
  | .verifying => 3
  | .awaitEndorse => 4
  | .counting => 5
  | .halted => 6

/-- Load sub-state codes (R171). -/
def LoadSub.code : LoadSub → Nat
  | .none => 0
  | .clearing => 1
  | .filling => 2

/-- Result codes (R169). -/
def Result.code : Result → Nat
  | .accepted => 0
  | .pending => 1
  | .clamped => 2
  | .refusedMode => 3
  | .refusedRange => 4
  | .refusedNotSupervisor => 5
  | .refusedState => 6
  | .refusedDuplicate => 7
  | .refusedKindMismatch => 8
  | .refusedHead => 9
  | .refusedNotPermitted => 10
  | .refusedRecentTraffic => 11
  | .refusedNoRecord => 12
  | .refusedSignature => 13
  | .refusedLocked => 14
  | .refusedBusy => 15
  | .refusedKey => 16

/-- Offending table codes (R171). -/
def Table.code : Table → Nat
  | .map => 1
  | .sect => 2

/-- Reason codes (R171). -/
def Reason.code : Reason → Nat
  | .unusedSection => 1
  | .duplicateSection => 2
  | .noBoundary => 3

/-- Reset kind codes in a state byte and in SECTION_DETAIL data (R171). -/
def kindCode : ResetKind → Nat
  | .prep => 1
  | .direct => 2

/-- Opener codes in SECTION_DETAIL data (R171). -/
def openerCode : SupLink → Nat
  | .sl0 => 1
  | .sl1 => 2

/-- Direction codes in EVENTS records (R171). -/
def dirCode : Dir → Nat
  | .n => 0
  | .r => 1

/-- Telegram kinds of the supervisory requests (R170). -/
def supKind : SupRequest → Byte
  | .resetPrep _ => 0x11#8
  | .resetDirect _ => 0x12#8
  | .resetCancel _ => 0x13#8
  | .sectionDetail _ => 0x14#8
  | .noticeAck _ => 0x15#8
  | .noticeMask _ _ => 0x16#8
  | .endorse _ => 0x17#8
  | .withdraw => 0x18#8

/-- Telegram kinds of the service requests (R170). -/
def svcKind : SvcRequest → Byte
  | .loadBegin => 0x21#8
  | .loadStatus => 0x22#8
  | .loadIndex _ _ => 0x23#8
  | .mapEntry _ _ => 0x24#8
  | .sectionEntry _ _ _ _ => 0x25#8
  | .globalEntry _ _ _ => 0x26#8
  | .loadEnd => 0x27#8
  | .restart => 0x28#8
  | .headRead _ => 0x29#8
  | .haltRead => 0x2A#8

/-- The bit of a notice in a mask (R170). -/
def noticeBit : Notice → Nat
  | .change => 0
  | .selected => 1
  | .ringHalf => 2
  | .ringGap => 3
  | .concurOpen => 4
  | .concurLapsed => 5
  | .headFault => 6
  | .halt => 7
  | .endorseLost => 8
  | .lineFault => 9

end Sys2Proof.Machine
end

