-- ==== Sys2Proof/Machine/Flags.lean ====
section
/-! DEFINITION. The flags of a link: notices, notice mask and attention line (R174 to R176), and the link flags byte (R166, R171). -/

namespace Sys2Proof.Machine

/-- Whether a notice is set. -/
def Sup.noticed (x : Sup) (n : Notice) : Bool := x.notices.getLsbD (noticeBit n)

/-- Whether a notice's bit is set in the mask. -/
def Sup.masked (x : Sup) (n : Notice) : Bool := x.mask.getLsbD (noticeBit n)

/-- The mask of one notice. -/
def noticeMaskOf (n : Notice) : BitVec 10 := 1#10 <<< noticeBit n

/-- The line in level mode: asserted while a set notice's bit is set in the mask. In pulse mode the line is left as it is (R176). -/
def Sup.follow (x : Sup) : Sup :=
  match x.attnMode with
  | .level => { x with attn := decide (x.notices &&& x.mask ≠ 0#10) }
  | .pulse => x

/-- A notice goes from clear to set, or stays set; the attention line follows or gives a pulse (R174, R176). -/
def Sup.setNotice (n : Notice) (x : Sup) : Sup :=
  if x.noticed n then x
  else
    let y := { x with notices := x.notices ||| noticeMaskOf n }
    match x.attnMode with
    | .level => y.follow
    | .pulse => if x.masked n then { y with pulse := some 0, attn := true } else y

/-- NOTICE_ACK clears the notices named in the mask; bits 10 to 15 are ignored (R175). -/
def Sup.ackNotices (mask : BitVec 16) (x : Sup) : Sup :=
  { x with notices := x.notices &&& ~~~ (mask.extractLsb' 0 10) }.follow

/-- NOTICE_MASK sets the mask and the attention mode; any pulse ends, and the line is deasserted in pulse mode and follows the level rule
in level mode (R175, R176). -/
def Sup.takeMask (mask : BitVec 16) (attention : Nat) (x : Sup) : Sup :=
  { x with
    mask := mask.extractLsb' 0 10
    attnMode := if attention = 0 then .level else .pulse
    attn := false
    pulse := none }.follow

/-- Steps of 100 µs in the 1 ms of an attention pulse (R176; log 18). -/
def pulseSteps : Nat := 10

/-- The end of the 1 ms pulse (R176). -/
def Sup.endPulse (x : Sup) : Sup :=
  match x.pulse with
  | some e => if pulseSteps ≤ e then { x with pulse := none, attn := false } else x
  | none => x

/-- The link flags byte: request-overrun in bit 0, line-fault in bit 1 (R171). -/
def Line.flagsByte (x : Line) : Byte :=
  byte ((if x.overrun then 1 else 0) + (if x.lineFault then 2 else 0))

end Sys2Proof.Machine
end

