-- ==== Sys2Proof/Machine/Ops.lean ====
section
/-! DEFINITION. The named operations that the meanings share: access to the blocks' records, requests for notices, disturbance and the
reporting of state code changes (R63, R85), pending records (R118), image entry and the ways out of force (R143), and the halt
(R135, R138). -/

namespace Sys2Proof.Machine

/-- The outcome of a command. -/
abbrev Out := Host.Outcome State Fault Refusal

/-- The running modes, in which the heads decode and an image is in force; the others are the held modes (R25). -/
def Mode.running : Mode → Bool
  | .starting => false
  | .unconfigured => false
  | .loading => false
  | .verifying => false
  | .awaitEndorse => true
  | .counting => true
  | .halted => true

/-- A vector given entry by entry. Irreducible, so that no tactic evaluates it entry by entry; proofs read it with `tabulate_get`. -/
@[irreducible] def tabulate {α : Type} {n : Nat} (f : Fin n → α) : Vector α n := Vector.ofFn f

/-! ### Access -/

def State.sup (s : State) : SupLink → Sup
  | .sl0 => s.lc0
  | .sl1 => s.lc1

def State.setSup (s : State) (l : SupLink) (x : Sup) : State :=
  match l with
  | .sl0 => { s with lc0 := x }
  | .sl1 => { s with lc1 := x }

def State.line (s : State) : Link → Line
  | .sup l => (s.sup l).line
  | .svl => s.lcs.line

def State.setLine (s : State) (l : Link) (x : Line) : State :=
  match l with
  | .sup l => s.setSup l { s.sup l with line := x }
  | .svl => { s with lcs := { s.lcs with line := x } }

def State.setHead (s : State) (d : DP) (h : Head) : State := { s with heads := s.heads.set d h }

def State.setSect (s : State) (k : SectNo) (x : Sect) : State := { s with sects := s.sects.set k x }

def State.setRecord (s : State) (k : SectNo) (r : Option PendingRecord) : State :=
  { s with records := s.records.set k r }

def State.endorsed (s : State) : SupLink → Bool
  | .sl0 => s.endorsed0
  | .sl1 => s.endorsed1

def State.setEndorsed (s : State) (l : SupLink) (b : Bool) : State :=
  match l with
  | .sl0 => { s with endorsed0 := b }
  | .sl1 => { s with endorsed1 := b }

/-- A section is used when an image is in force and its supervision there is not UNUSED (R60, R99). -/
def State.used (s : State) (k : SectNo) : Bool :=
  s.inForce.isSome && decide (s.image.supervision k ≠ .unused)

/-- A link supervises a used section as R99 gives. -/
def State.supervises (s : State) (l : SupLink) (k : SectNo) : Bool :=
  s.inForce.isSome && (s.image.supervision k).names l

/-- The section a byte of a request names (R101). -/
def sectOf (n : Nat) : Option SectNo := if h : n < 24 then some ⟨n, h⟩ else none

/-- The detection point a byte of a request names (R24, R29). -/
def dpOf (n : Nat) : Option DP := if h : n < 32 then some ⟨n, h⟩ else none

/-- The used section that a request names, if it names one (R88, R101). -/
def State.usedSect (s : State) (n : Nat) : Option SectNo := (sectOf n).filter s.used

/-- Every head of the bounding set is FREE in the Counting Engine's view (R62). -/
def State.viewFree (s : State) (k : SectNo) : Bool := s.bounding[k].all fun d => decide (s.view[d] = .free)

/-- Every head of the bounding set is FREE as the HDU holds it (R102). -/
def State.headsFree (s : State) (k : SectNo) : Bool := s.bounding[k].all fun d => decide (s.heads[d].state = .free)

/-! ### Notices -/

/-- A block asks a link controller to set a notice; the controller takes the request later (R174; log 8). -/
def State.ask (s : State) (n : Notice) (l : SupLink) : State :=
  s.setSup l { s.sup l with asked := (s.sup l).asked ++ [n] }

/-- Asks for a notice on each link of a set. -/
def State.askEach (s : State) (n : Notice) (on : SupLink → Bool) : State :=
  let s := if on .sl0 then s.ask n .sl0 else s
  if on .sl1 then s.ask n .sl1 else s

/-- A link controller sets a notice at once (R138, R164, R177; log 8). -/
def State.setNotice (s : State) (n : Notice) (l : SupLink) : State := s.setSup l ((s.sup l).setNotice n)

/-- Sets a notice at once on each link of a set. -/
def State.setNoticeEach (s : State) (n : Notice) (on : SupLink → Bool) : State :=
  let s := if on .sl0 then s.setNotice n .sl0 else s
  if on .sl1 then s.setNotice n .sl1 else s

/-! ### Sections and pending records -/

/-- Removes the pending record of a section, if there is one, and asks for CONCUR_LAPSED on its opener (R114 to R118). -/
def State.dropRecord (s : State) (k : SectNo) : State :=
  match s.records[k] with
  | none => s
  | some r => (s.setRecord k none).ask .concurLapsed r.opener

/-- Removes every pending record (R117). -/
@[irreducible] def State.dropRecords (s : State) : State := (List.finRange 24).foldl State.dropRecord s

/-- A cause raised on a section (R63): a section already DISTURBED keeps its first cause. -/
def Sect.raise (c : Cause) (dp : Option DP) (x : Sect) : Sect :=
  if x.state = .disturbed then x
  else { x with state := .disturbed, cause := c, causeDP := dp, settle := none }

/-- Tells the RCU and asks for CHANGE where the state code of a used section differs from what it was (R85, R86, R116; log 29). -/
def State.reportChange (old : Vector Sect 24) (s : State) (k : SectNo) : State :=
  if s.used k && decide (s.sects[k].state ≠ old[k].state) then
    (s.dropRecord k).askEach .change fun l => s.supervises l k
  else s

/-- Changes the section records and reports every state code that changed (R85). -/
@[irreducible] def State.changeSects (s : State) (f : SectNo → Sect → Sect) : State :=
  (List.finRange 24).foldl (State.reportChange s.sects) { s with sects := tabulate fun k => f k s.sects[k] }

/-- Raises a cause on used sections (R63). -/
def State.raiseOn (s : State) (c : Cause) (dp : Option DP) (on : SectNo → Bool) : State :=
  s.changeSects fun k x => if s.used k && on k then x.raise c dp else x

/-! ### Heads put into UNKNOWN -/

/-- A candidate count at or above the new QUAL is set to 0 (R5). -/
def keepBelow (qual n : Nat) : Nat := if qual ≤ n then 0 else n

/-- The head record put into UNKNOWN: on entry into a held mode, at RESTART and at image entry (R25, R26). What the head had handed
on and the CNT had not taken is discarded (R62). A qualified change that a sampling step made due and no command has taken goes with its
candidate count, since the count stands at QUAL (DESIGN CHOICE, log 30). -/
def Head.toUnknown (qual : Nat) (h : Head) : Head :=
  { h with
    state := .unknown
    cand1 := keepBelow qual h.cand1
    cand2 := keepBelow qual h.cand2
    bucket := 0
    passageStart := none
    lastAxle := none
    recovery := 0
    outbox := [] }

/-- QUAL in the held modes (R5). -/
def heldQual : Nat := 5

def State.mapHeads (s : State) (f : Head → Head) : State := { s with heads := tabulate fun d => f s.heads[d] }

/-! ### The image entering and leaving force -/

/-- Section records, histories, period counter and timer, and the view of the heads, at RESTART, LOAD_BEGIN and image entry (R62, R80, R98). -/
def State.resetCounting (s : State) : State :=
  { s with
    sects := Vector.replicate 24 Sect.reset
    view := Vector.replicate 32 .notFree
    periodCounter := 0#16
    periodTimer := 0 }

/-- The report timers restart from 0 (R172). -/
def State.restartReports (s : State) : State :=
  { s with lc0 := { s.lc0 with reportTimer := 0 }, lc1 := { s.lc1 with reportTimer := 0 } }

/-- The image leaves force, if one is in force: no derived set, no check code, endorsements clear, report timers restarted
(R34, R142, R143, R172). -/
def State.leaveForce (s : State) : State :=
  { (if s.inForce.isSome then s.restartReports else s) with
    inForce := none
    endorsed0 := false
    endorsed1 := false
    bounding := Vector.replicate 24 []
    routing := Vector.replicate 32 LinkSet.empty
    codes := Vector.replicate 32 none }

/-- The Integrity Monitor at RESTART and LOAD_BEGIN, its clock window apart (R141). -/
def State.resetIntegrity (s : State) : State :=
  { s with softErrors := 0, scrubTimer := none, scrubPass := false, firstCause := none, subCause := none }

/-- A supervisory controller empties its ring and sets its sequence counter to 0 (R150, R179). -/
def Sup.emptyRing (x : Sup) : Sup := { x with ring := [], seq := 0#8, gap := false }

/-- Image entry (R143): the image comes into force with its signature, and each block takes its image-entry values
(R26, R31 to R34, R62, R80, R98, R142, R172). -/
def State.enterImage (s : State) (i : Image) (g : Signature) : State :=
  { (s.mapHeads (Head.toUnknown i.globals.qual)).resetCounting.restartReports with
    mode := .awaitEndorse
    sub := .none
    offending := none
    endorsed0 := false
    endorsed1 := false
    image := i
    inForce := some g
    opTimer := 0
    bounding := tabulate i.boundingSet
    routing := tabulate i.routingSet
    codes := tabulate fun d => some (entryCode d i.map[d]) }

/-! ### The halt -/

/-- Entry into HALTED from COUNTING, within the event that raised the first cause (R135, R138). -/
def State.enterHalted (s : State) (c : HaltCause) : State :=
  let t := s.dropRecords
  let u : State :=
    { t with
      sects := tabulate fun k => if s.used k then s.sects[k].raise .halt none else s.sects[k]
      mode := .halted
      firstCause := some c }
  (u.setNoticeEach .halt fun _ => true).setNoticeEach .change fun l =>
    (List.finRange 24).any fun k => s.supervises l k && decide (s.sects[k].state ≠ .disturbed)

/-- A cause offered to the subsequent slot replaces NONE or a cause of lower rank (R136). -/
def offerCause (c : HaltCause) : Option HaltCause → Option HaltCause
  | none => some c
  | some held => if c.code < held.code then some c else some held

/-- A halt cause raised: the first cause in COUNTING, an offer to the subsequent slot in HALTED, discarded in every other mode
(R133, R135, R136). -/
def State.raiseHalt (s : State) (c : HaltCause) : State :=
  match s.mode with
  | .counting => s.enterHalted c
  | .halted => { s with subCause := offerCause c s.subCause }
  | .starting => s
  | .unconfigured => s
  | .loading => s
  | .verifying => s
  | .awaitEndorse => s

/-! ### Answers to requests -/

/-- A result and its response data (R166). -/
structure Answer where
  result : Result
  data : List Byte
  deriving DecidableEq, Repr

/-- A refusal, or a result without data (R169). -/
def plain (r : Result) : Answer := ⟨r, []⟩

/-- The owner places its answer in the response slot of the link the request came from (R165, R166). -/
def State.respond (s : State) (l : Link) (kind : Byte) (a : Answer) : State :=
  s.setLine l { s.line l with slot := some ⟨kind, a.result, a.data⟩ }

/-- A request is accepted while the slot is occupied: it is not acted on and the request-overrun flag is set (R166). -/
def State.overrunOn (s : State) (l : Link) : State := s.setLine l { s.line l with overrun := true }

/-- An owner takes a request of a supervisory link whole: the one that link's controller handed on, or, where none is handed on, one that
arrives now and is accepted (R165, R166; log 6). -/
def State.takeSup (s : State) (l : SupLink) (r : SupRequest) (owner : State → State × Answer) : State :=
  if (s.sup l).handed = some r then
    let (t, a) := owner (s.setSup l { s.sup l with handed := none })
    t.respond (.sup l) (supKind r) a
  else if (s.sup l).handed.isSome || (s.sup l).line.slot.isSome then s.overrunOn (.sup l)
  else
    let (t, a) := owner s
    t.respond (.sup l) (supKind r) a

/-- The same for the service link (log 6). -/
def State.takeSvc (s : State) (r : SvcRequest) (owner : State → State × Answer) : State :=
  if s.lcs.handed = some r then
    let (t, a) := owner { s with lcs := { s.lcs with handed := none } }
    t.respond .svl (svcKind r) a
  else if s.lcs.handed.isSome || s.lcs.line.slot.isSome then s.overrunOn .svl
  else
    let (t, a) := owner s
    t.respond .svl (svcKind r) a

end Sys2Proof.Machine
end

