-- ==== Sys2Proof/Machine/Operands.lean ====
section
/-! DEFINITION. The operand forms: characters (R160), telegrams and their acceptance (R161 to R164), the payloads of requests (R165, R170), and
the reads of a map entry (R33, R36). -/

namespace Sys2Proof.Machine

/-- The number of ones among the data bits of a character. -/
def onesOf (b : Byte) : Nat := (List.range 8).countP fun i => b.getLsbD i

/-- A parity error: the ones among the data bits and the parity bit are not odd in number (R160). -/
def parityError (c : Character) : Bool := decide ((onesOf c.data + if c.parity then 1 else 0) % 2 = 0)

/-- A character received whole, without parity or framing error (R160, R163). -/
def goodCharacter (c : Character) : Bool := c.stop && !parityError c

/-- The character sent for a byte: odd parity, the stop bit at the high level (R160). -/
def sentCharacter (b : Byte) : Character := ⟨b, decide (onesOf b % 2 = 0), true⟩

/-- The 11 levels of a character on its line, one a bit time, true the high level: a low start bit, the data bits with the least significant
first, the parity bit, the stop bit (R160). -/
def characterLevels (c : Character) : List Bool :=
  false :: ((List.range 8).map fun i => c.data.getLsbD i) ++ [c.parity, c.stop]

/-- The characters of a telegram, back to back (R161). -/
def sentCharacters (bytes : List Byte) : List Character := bytes.map sentCharacter

/-- The level at which a line rests, true the high level (R160). -/
def restLevel : Bool := true

/-- The level of the line in the given bit time, counted from 0, after its transmitter entered the state it is in: the telegram's characters back to
back in SENDING, the high level in IDLE, where nothing is sent, and throughout GAP (R160, R161, R167). -/
def Transmitter.level : Transmitter → Nat → Bool
  | .idle, _ => restLevel
  | .sending chars, bit => (chars.flatMap characterLevels).getD bit restLevel
  | .gap, _ => restLevel

/-- How many bit times a transmitter stays in a state: 11 for each character of its telegram, 22 in GAP, in IDLE until it has a telegram to send
(R160, R167; no step counts them, log 15). -/
def Transmitter.bitTimes : Transmitter → Option Nat
  | .idle => none
  | .sending chars => some (11 * chars.length)
  | .gap => some 22

/-- The first byte of every telegram (R161). -/
def syncByte : Byte := 0xA6#8

/-- The bytes of a telegram of a kind with a payload (R161, R162). -/
def telegram (kind : Byte) (payload : List Byte) : List Byte :=
  let body := byte (payload.length + 1) :: kind :: payload
  syncByte :: body ++ bytes16 (telegramCrc body)

/-- The kinds each link takes (R164). -/
def takesKind (l : Link) (kind : Byte) : Bool :=
  match l with
  | .sup _ => decide (0x11 ≤ kind.toNat) && decide (kind.toNat ≤ 0x18)
  | .svl => decide (0x21 ≤ kind.toNat) && decide (kind.toNat ≤ 0x2A)

/-- The kind and payload of a telegram that the controller accepts; none where a condition of R164 fails. -/
def acceptTelegram (l : Link) (bytes : List Byte) : Option (Byte × List Byte) :=
  match bytes with
  | sync :: len :: kind :: rest =>
    let payload := rest.take (len.toNat - 1)
    if sync = syncByte ∧ 1 ≤ len.toNat ∧ len.toNat ≤ 60 ∧ len.toNat + 4 = bytes.length ∧
        rest.drop (len.toNat - 1) = bytes16 (telegramCrc (len :: kind :: payload)) ∧ takesKind l kind = true
    then some (kind, payload) else none
  | _ => none

/-- Two bytes, high byte first (R161). -/
def word16 (hi lo : Byte) : BitVec 16 := hi ++ lo

/-- The terms of a MAP_ENTRY payload; a flags byte above 3 fails the payload check (R165, R170). -/
def parseTerms : List Byte → Option (List WireTerm)
  | [] => some []
  | [_] => none
  | k :: f :: rest =>
    if f.toNat ≤ 3 then
      (parseTerms rest).map fun ts =>
        ⟨k.toNat, if f.toNat % 2 = 0 then .inOnN else .inOnR, decide (2 ≤ f.toNat)⟩ :: ts
    else none

/-- The payload check of the supervisory requests (R165, R170). -/
def parseSup (kind : Byte) (payload : List Byte) : Option SupRequest :=
  match kind.toNat, payload with
  | 0x11, [k] => some (.resetPrep k.toNat)
  | 0x12, [k] => some (.resetDirect k.toNat)
  | 0x13, [k] => some (.resetCancel k.toNat)
  | 0x14, [k] => some (.sectionDetail k.toNat)
  | 0x15, [a, b] => some (.noticeAck (word16 a b))
  | 0x16, [a, b, m] => some (.noticeMask (word16 a b) m.toNat)
  | 0x17, [a, b, c, d] => some (.endorse (word16 a b ++ word16 c d))
  | 0x18, [] => some .withdraw
  | _, _ => none

/-- The payload check of the service requests (R165, R170). -/
def parseSvc (kind : Byte) (payload : List Byte) : Option SvcRequest :=
  match kind.toNat, payload with
  | 0x21, [] => some .loadBegin
  | 0x22, [] => some .loadStatus
  | 0x23, [t, i] => some (.loadIndex t.toNat i.toNat)
  | 0x24, d :: n :: rest =>
    if rest.length = 2 * n.toNat then (parseTerms rest).map fun ts => .mapEntry d.toNat ts else none
  | 0x25, [a, b, c, d] => some (.sectionEntry a.toNat b.toNat c.toNat d.toNat)
  | 0x26, [a, b, c, d, e, f, g, h, i, j, r0, e0, r1, e1] =>
    some (.globalEntry
      ⟨a.toNat, b.toNat, c.toNat, d.toNat, e.toNat, f.toNat, g.toNat, h.toNat, i.toNat, j.toNat⟩
      ⟨r0.toNat, e0.toNat⟩ ⟨r1.toNat, e1.toNat⟩)
  | 0x27, [] => some .loadEnd
  | 0x28, [] => some .restart
  | 0x29, [d] => some (.headRead d.toNat)
  | 0x2A, [] => some .haltRead
  | _, _ => none

/-- What one read of a map entry gives: the fields and the check code read (R36). -/
def State.readEntry (s : State) (d : DP) : MapRead → MapEntry × Option Byte
  | .intact => (s.image.map[d], s.codes[d])
  | .altered e c => (e, some c)

/-- A read passes when the check code recomputed over the fields read equals the check code read (R36). -/
def State.readPasses (s : State) (d : DP) (r : MapRead) : Bool :=
  decide ((s.readEntry d r).2 = some (entryCode d (s.readEntry d r).1))

end Sys2Proof.Machine
end

