-- ==== Sys2Proof/Machine/HeadDecoder.lean ====
section
/-! DEFINITION. The Head Decoder Unit (chapter 1): qualified changes, glitches, the front-end fault, recovery, the drain of the glitch
buckets, and HEAD_READ. -/

namespace Sys2Proof.Machine

/-- The states in which a head follows its qualified channel pair (R6, R7, R9). -/
def HeadState.follows : HeadState → Bool
  | .unknown => false
  | .free => true
  | .n1 => true
  | .n2 => true
  | .n3 => true
  | .r2 => true
  | .r3 => true
  | .r4 => true
  | .fault => false

/-- QUAL in use: the image's in the running modes, 5 in the held modes (R5). -/
def State.qual (s : State) : Nat := if s.mode.running then s.image.globals.qual else heldQual

/-- RECOVERY in sampling steps (R19). -/
def State.recoverySteps (s : State) : Nat := s.image.globals.recovery * 10000

/-- A head hands records on to the Counting Engine (R21, R22). -/
def Head.handOn (h : Head) (xs : List HandedOn) : Head := { h with outbox := h.outbox ++ xs }

/-- A head enters FAULT from another state (R16), and HEAD_FAULT is asked for on its routing set (R23). -/
def State.enterFault (s : State) (d : DP) (c : FaultCause) : State :=
  let h := s.heads[d]
  (s.setHead d
    (Head.handOn { h with
        state := .fault, lastCause := c, passageStart := none, lastAxle := none, recovery := 0 }
      [.classChange .fault])).askEach .headFault s.routing[d].has

/-- The front-end fault input seen active at the latest sampling step acts on its head, in the running modes (R18). The mode is that at the
taking, not that at the step (DESIGN CHOICE, log 31). -/
def State.takeFaultInput (s : State) (d : DP) : State :=
  let h := s.heads[d]
  if s.mode.running && h.faultIn then
    if h.state = .fault then s.setHead d { h with lastCause := .frontEnd, recovery := 0 }
    else s.enterFault d .frontEnd
  else s

/-- A raw level equal to the qualified level with a candidate count above 0 is a glitch on that channel (R3). -/
def Head.glitch1 (h : Head) : Bool := h.raw1 == h.q1 && decide (0 < h.cand1)

def Head.glitch2 (h : Head) : Bool := h.raw2 == h.q2 && decide (0 < h.cand2)

/-- The glitches of a head at one step, 0 to 2 (R6). -/
def Head.glitches (h : Head) : Nat := (if h.glitch1 then 1 else 0) + if h.glitch2 then 1 else 0

/-- The candidate counts after the glitches of a step (R3). -/
def Head.clearGlitches (h : Head) : Head :=
  { h with cand1 := if h.glitch1 then 0 else h.cand1, cand2 := if h.glitch2 then 0 else h.cand2 }

/-- The glitches of a head at the latest step, after its fault input (R6, R8, R16; log 4): the candidate counts return to 0, and in the
following states the bucket rises, at most to GLITCH_LIMIT, where the head enters FAULT. -/
def State.takeGlitch (s : State) (d : DP) : State :=
  if s.heads[d].glitches = 0 then s
  else
    let s := s.takeFaultInput d
    let h := s.heads[d]
    let limit := s.image.globals.glitchLimit
    if s.mode.running && h.state.follows then
      let bucket := min (h.bucket + h.glitches) limit
      let t := s.setHead d { h.clearGlitches with bucket := bucket }
      if limit ≤ bucket then t.enterFault d .interference else t
    else s.setHead d h.clearGlitches

/-- A raw level unlike the qualified level whose candidate count has reached QUAL is a qualified change (R3). -/
def Head.changed1 (qual : Nat) (h : Head) : Bool := h.raw1 != h.q1 && decide (qual ≤ h.cand1)

def Head.changed2 (qual : Nat) (h : Head) : Bool := h.raw2 != h.q2 && decide (qual ≤ h.cand2)

/-- The qualified levels and candidate counts after the qualified changes of a step (R3). -/
def Head.requalify (qual : Nat) (h : Head) : Head :=
  { h with
    q1 := if h.changed1 qual then h.raw1 else h.q1
    cand1 := if h.changed1 qual then 0 else h.cand1
    q2 := if h.changed2 qual then h.raw2 else h.q2
    cand2 := if h.changed2 qual then 0 else h.cand2 }

/-- The spacing check: a departure within MIN_FREE milliseconds of the last counted axle (R15). -/
def State.tooClose (s : State) (h : Head) : Bool :=
  match h.lastAxle with
  | none => false
  | some a => decide (s.image.globals.minFree ≠ 0) && decide (s.stepNo - a < s.image.globals.minFree * 10)

/-- A departure from FREE (R10, R15). -/
def State.depart (s : State) (d : DP) (into : HeadState) : State :=
  let h := s.heads[d]
  if s.tooClose h then s.enterFault d .tooFast
  else s.setHead d (Head.handOn { h with state := into, passageStart := some s.stepNo } [.classChange .notFree])

/-- A withdrawal: back to FREE with no axle event (R11, R12). -/
def State.withdrawHead (s : State) (d : DP) : State :=
  s.setHead d (Head.handOn { s.heads[d] with state := .free, passageStart := none } [.classChange .free])

/-- The duration of the passage in progress, in sampling steps (R14; log 21 where there is no passage start). -/
def State.duration (s : State) (h : Head) : Nat :=
  match h.passageStart with
  | some p => s.stepNo - p
  | none => 0

/-- A counting return (R14, R21): the axle event is handed on before the class change (R22). One that is too fast enters FAULT, which makes
the last counted axle absent (R15, R16; log 26). -/
def State.countingReturn (s : State) (d : DP) (dir : Dir) : State :=
  let h := s.heads[d]
  if s.duration h < s.image.globals.minPassage then s.enterFault d .tooFast
  else s.setHead d (Head.handOn
    { h with state := .free, lastAxle := some s.stepNo, passageStart := none }
    [.axle ⟨d, dir, s.stamp⟩, .classChange .free])

/-- A head moves within a passage (R11, R12). -/
def State.moveTo (s : State) (d : DP) (into : HeadState) : State := s.setHead d { s.heads[d] with state := into }

/-- A single change of the qualified pair moves the head (R10 to R12, R14). The pairs that no single change can give leave the head
as it is (log 21). -/
def State.followPair (s : State) (d : DP) : State :=
  match s.heads[d].state, s.heads[d].q1, s.heads[d].q2 with
  | .free, true, false => s.depart d .n1
  | .free, false, true => s.depart d .r2
  | .n1, true, true => s.moveTo d .n2
  | .n1, false, false => s.withdrawHead d
  | .n2, false, true => s.moveTo d .n3
  | .n2, true, false => s.moveTo d .n1
  | .n3, true, true => s.moveTo d .n2
  | .n3, false, false => s.countingReturn d .n
  | .r2, true, true => s.moveTo d .r3
  | .r2, false, false => s.withdrawHead d
  | .r3, true, false => s.moveTo d .r4
  | .r3, false, true => s.moveTo d .r2
  | .r4, true, true => s.moveTo d .r3
  | .r4, false, false => s.countingReturn d .r
  | _, _, _ => s

/-- The qualified changes of a head at the latest step, taken together after its fault input and its glitches (R3, R4, R8, R13, R16; log 4). -/
def State.takeChange (s : State) (d : DP) : State :=
  let both := s.heads[d].changed1 s.qual && s.heads[d].changed2 s.qual
  if s.heads[d].changed1 s.qual || s.heads[d].changed2 s.qual then
    let s := (s.takeFaultInput d).takeGlitch d
    let h := s.heads[d]
    let t := s.setHead d (h.requalify s.qual)
    if s.mode.running && h.state.follows then
      if both then t.enterFault d .transition else t.followPair d
    else t
  else s

/-- A head leaves FAULT or UNKNOWN for FREE when its recovery timer has reached RECOVERY (R19, R20). -/
def State.takeRecovery (s : State) (d : DP) (since : HeadState) : State :=
  let h := s.heads[d]
  if s.mode.running && decide (h.state = since) && decide (s.recoverySteps ≤ h.recovery) then
    s.setHead d (Head.handOn { h with state := .free, bucket := 0, recovery := 0 } [.classChange .free])
  else s

/-- The drain of one bucket (R7). -/
def Head.drain (h : Head) : Head := if h.state.follows then { h with bucket := h.bucket - 1 } else h

/-- A drain moment: every bucket of a following head above 0 falls by 1 (R7). -/
def State.drainBuckets (s : State) : State :=
  if s.drainDue then { s.mapHeads Head.drain with drainDue := false } else s

/-- HEAD_READ (R24, R171). -/
def State.readHead (s : State) (n : Nat) : State × Answer :=
  match dpOf n with
  | none => (s, plain .refusedRange)
  | some d =>
    let h := s.heads[d]
    (s, ⟨.accepted, [byte h.state.code, byte h.lastCause.code, byte h.bucket,
      byte ((if h.q1 then 1 else 0) + if h.q2 then 2 else 0)]⟩)

/-- QUALIFIED_CHANGE (R3, R4, R10 to R17). -/
def execQualifiedChange (d : DP) (s : State) : Out := .next (s.takeChange d)

/-- GLITCH (R6, R8). -/
def execGlitch (d : DP) (s : State) : Out := .next (s.takeGlitch d)

/-- BUCKET_DRAIN (R7). -/
def execBucketDrain (s : State) : Out := .next s.drainBuckets

/-- FRONT_END_FAULT (R18). -/
def execFrontEndFault (d : DP) (s : State) : Out := .next (s.takeFaultInput d)

/-- HEAD_RECOVERY (R19). -/
def execHeadRecovery (d : DP) (s : State) : Out := .next (s.takeRecovery d .fault)

/-- UNKNOWN_RECOVERY (R20). -/
def execUnknownRecovery (d : DP) (s : State) : Out := .next (s.takeRecovery d .unknown)

/-- HEAD_READ (R24). -/
def execHeadRead (n : Nat) (s : State) : Out := .next (s.takeSvc (.headRead n) fun t => t.readHead n)

end Sys2Proof.Machine
end

