-- ==== Sys2Proof/Machine/ImageControl.lean ====
section
/-! DEFINITION. The Image Controller (chapter 8): start-up, the service key, loading and verifying, restart, endorsement and withdrawal. -/

namespace Sys2Proof.Machine

/-! ### Start-up, verification and power-on -/

/-- The 100 ms of the start-up read, the 40 ms of clearing and the 200 ms of verifying (R147, R151, R154). -/
def startTicks : Nat := 100

def clearTicks : Nat := 40

def verifyTicks : Nat := 200

/-- The length of the operation in flight, 0 where there is none. -/
def State.opTicks (s : State) : Nat :=
  match s.mode with
  | .starting => startTicks
  | .verifying => verifyTicks
  | .loading => if s.sub = .clearing then clearTicks else 0
  | .unconfigured => 0
  | .awaitEndorse => 0
  | .counting => 0
  | .halted => 0

/-- The start-up read completes: a good stored image enters force, otherwise the mode becomes UNCONFIGURED (R147; log 27).
The read gives what the store holds; nothing in the model spoils it (DESIGN CHOICE, log 33). -/
def State.completeStart (s : State) : State :=
  if s.mode = .starting ∧ startTicks ≤ s.opTimer then
    let bad : State := { s with mode := .unconfigured, image := Image.default, inForce := none, opTimer := 0 }
    match s.store with
    | none => bad
    | some x => if x.image.signature = x.signature then s.enterImage x.image x.signature else bad
  else s

/-- Clearing completes (R151). -/
def State.completeClearing (s : State) : State :=
  if s.mode = .loading ∧ s.sub = .clearing ∧ clearTicks ≤ s.opTimer then
    { s with sub := .filling, mapIndex := 0, sectIndex := 0, image := Image.default, opTimer := 0 }
  else s

/-- Verifying completes: a legal image is signed, committed and enters force, an illegal one leaves the mode UNCONFIGURED (R154; log 27). -/
def State.completeVerify (s : State) : State :=
  if s.mode = .verifying ∧ verifyTicks ≤ s.opTimer then
    match s.image.firstOffence with
    | some o => { s with mode := .unconfigured, offending := some o, inForce := none, opTimer := 0 }
    | none => { s with store := some ⟨s.image, s.image.signature⟩ }.enterImage s.image s.image.signature
  else s

/-- What a power loss leaves in the store: in VERIFYING under a legal image the old image or the new one, a free choice (R154; log 12). -/
def State.storeAfterPowerLoss (s : State) : Option Stored :=
  if s.mode = .verifying ∧ s.image.firstOffence = none then
    if Config.commitReached s.free then some ⟨s.image, s.image.signature⟩ else s.store
  else s.store

/-- Power-on: every block takes its power-on values; the store is kept, and the commands waiting are the sender's (R142). -/
def State.powerOn (s : State) : State :=
  { State.reset with store := s.storeAfterPowerLoss, free := s.free + 1, pending := s.pending }

/-! ### The service key -/

/-- The load is abandoned (R149). -/
def State.abandonLoad (s : State) : State :=
  if s.mode = .loading then { s with mode := .unconfigured, sub := .none, opTimer := 0 } else s

/-- SVKEY is seen inactive (R149). -/
def State.keyInactive (s : State) : State := { s with svkey := false }.abandonLoad

/-- The level of SVKEY as a request finds it when it is taken (R148); an inactive level is seen as R149 says (log 7). -/
def State.seeKey (s : State) (key : Bool) : State := if key then { s with svkey := true } else s.keyInactive

/-- Rules 2 and 3 of R148, then the mode table for LOAD_BEGIN and RESTART: the refusal, if there is one. -/
def State.refuseBegin (s : State) : Option Result :=
  match s.mode with
  | .starting => some .refusedBusy
  | .verifying => some .refusedBusy
  | .unconfigured => if s.svkey then none else some .refusedKey
  | .loading => if s.svkey then none else some .refusedKey
  | .awaitEndorse => if s.svkey then none else some .refusedKey
  | .counting => if s.svkey then some .refusedLocked else some .refusedKey
  | .halted => if s.svkey then none else some .refusedKey

/-- The same for LOAD_INDEX, the entry writes and LOAD_END (R148). -/
def State.refuseWrite (s : State) : Option Result :=
  match s.mode with
  | .starting => some .refusedBusy
  | .verifying => some .refusedBusy
  | .unconfigured => if s.svkey then some .refusedMode else some .refusedKey
  | .loading =>
    if s.svkey then
      match s.sub with
      | .clearing => some .refusedBusy
      | .filling => none
      | .none => some .refusedMode
    else some .refusedKey
  | .awaitEndorse => if s.svkey then some .refusedMode else some .refusedKey
  | .counting => if s.svkey then some .refusedLocked else some .refusedKey
  | .halted => if s.svkey then some .refusedMode else some .refusedKey

/-- The Image Controller takes a request that is judged by the key: the level is seen, and the request refused or acted on (R148). A request
that meets an occupied slot is not taken and sees no key (R166). -/
def State.judgedByKey (key : Bool) (refusal : State → Option Result) (act : State → State × Answer) (s : State) :
    State × Answer :=
  let t := s.seeKey key
  match refusal t with
  | some r => (t, plain r)
  | none => act t

/-! ### Loading -/

/-- The image-controller state that LOAD_BEGIN and RESTART share (R142). -/
def State.clearImage (s : State) : State :=
  { s with mapIndex := 0, sectIndex := 0, offending := none, image := Image.default, opTimer := 0 }

/-- LOAD_BEGIN taken (R150): the image leaves force, the working image is cleared, the rings are emptied, and heads, sections and the
Integrity Monitor take their LOAD_BEGIN values (R25, R80, R98, R141, R179). -/
def State.beginLoad (s : State) : State × Answer :=
  let t := if s.mode.running then s.mapHeads (Head.toUnknown heldQual) else s
  let u := t.resetCounting.resetIntegrity.leaveForce.clearImage
  ({ u with mode := .loading, sub := .clearing, lc0 := u.lc0.emptyRing, lc1 := u.lc1.emptyRing }, plain .accepted)

/-- LOAD_INDEX in FILLING (R152). -/
def State.setIndex (table index : Nat) (s : State) : State × Answer :=
  if table = 0 ∧ index ≤ 31 then ({ s with mapIndex := index }, plain .accepted)
  else if table = 1 ∧ index ≤ 23 then ({ s with sectIndex := index }, plain .accepted)
  else (s, plain .refusedRange)

/-- The terms of a MAP_ENTRY, where each names a section (R29). -/
def termsOf : List WireTerm → Option (List Term)
  | [] => some []
  | t :: ts =>
    match sectOf t.sect, termsOf ts with
    | some k, some rest => some (⟨k, t.sense, t.notify⟩ :: rest)
    | some _, none => none
    | none, _ => none

/-- MAP_ENTRY in FILLING (R29, R153). -/
def State.writeMap (n : Nat) (terms : List WireTerm) (s : State) : State × Answer :=
  match dpOf n, termsOf terms with
  | some d, some ts =>
    if n = s.mapIndex ∧ ts.length ≤ 4 then
      ({ s with image := { s.image with map := s.image.map.set d ⟨ts⟩ }, mapIndex := s.mapIndex + 1 }, plain .accepted)
    else (s, plain .refusedRange)
  | some _, none => (s, plain .refusedRange)
  | none, _ => (s, plain .refusedRange)

/-- SECTION_ENTRY in FILLING (R145, R153). -/
def State.writeSect (supervision direct settleExt quiet : Nat) (s : State) : State × Answer :=
  match sectOf s.sectIndex, Supervision.ofCode supervision, directOfCode direct with
  | some k, some v, some b =>
    let e : SectEntry := ⟨v, b, settleExt, quiet⟩
    ({ s with image := { s.image with sects := s.image.sects.set k e.clamp }, sectIndex := s.sectIndex + 1 },
      plain (if e.clamp = e then .accepted else .clamped))
  | _, _, _ => (s, plain .refusedRange)

/-- GLOBAL_ENTRY in FILLING (R145, R153). -/
def State.writeGlobals (g : Globals) (p0 p1 : LinkParams) (s : State) : State × Answer :=
  ({ s with image := { s.image with globals := g.clamp, params0 := p0.clamp, params1 := p1.clamp } },
    plain (if g.clamp = g ∧ p0.clamp = p0 ∧ p1.clamp = p1 then .accepted else .clamped))

/-- LOAD_END in FILLING (R154). -/
def State.endLoad (s : State) : State × Answer :=
  ({ s with mode := .verifying, sub := .none, opTimer := 0 }, plain .accepted)

/-- LOAD_STATUS (R155, R171). -/
def State.loadStatus (s : State) : State × Answer :=
  let item : List Byte :=
    match s.offending with
    | none => [byte 0, byte 0, byte 0]
    | some o => [byte o.table.code, byte o.index, byte o.reason.code]
  let force : List Byte :=
    match s.inForce with
    | none => byte 0 :: bytes32 0#32
    | some g => byte 1 :: bytes32 g
  (s, ⟨.accepted, [byte s.mode.code, byte s.sub.code, byte s.mapIndex, byte s.sectIndex] ++ item ++ force⟩)

/-! ### Restart -/

/-- A supervisory controller at RESTART: notices, mask, attention and ring (R179). A request handed on and not yet taken by its owner stays
(DESIGN CHOICE, log 34). -/
def Sup.restart (x : Sup) : Sup :=
  { x.emptyRing with notices := 0#10, mask := 0#10, attnMode := .level, attn := false, pulse := none }

/-- RESTART taken (R156): each block takes its RESTART values (R25, R26, R80, R98, R105, R141, R142, R179). -/
def State.restart (s : State) : State × Answer :=
  let t := s.mapHeads fun h => { h.toUnknown heldQual with lastCause := .none }
  let u := t.resetCounting.resetIntegrity.leaveForce.clearImage
  ({ u with
      mode := .starting
      sub := .none
      clockTicks := 0
      records := Vector.replicate 24 none
      lc0 := u.lc0.restart
      lc1 := u.lc1.restart }, plain .accepted)

/-! ### Endorsement -/

/-- Entry into COUNTING: every used section's record is set anew and the scrub timer starts (R78, R128). -/
def State.enterCounting (s : State) : State :=
  { s with
    mode := .counting
    scrubTimer := some 0
    sects := tabulate fun k =>
      if s.used k then
        { s.sects[k] with state := .disturbed, count := 0, cause := .start, causeDP := none, settle := none }
      else s.sects[k] }

/-- ENDORSE (R157). -/
def State.endorse (l : SupLink) (g : Signature) (s : State) : State × Answer :=
  match s.mode with
  | .awaitEndorse =>
    if s.inForce = some g then
      let t := s.setEndorsed l true
      (if t.endorsed l.other then t.enterCounting else t, plain .accepted)
    else (s, plain .refusedSignature)
  | .counting => (s, plain (if s.inForce = some g then .accepted else .refusedSignature))
  | .starting => (s, plain .refusedMode)
  | .unconfigured => (s, plain .refusedMode)
  | .loading => (s, plain .refusedMode)
  | .verifying => (s, plain .refusedMode)
  | .halted => (s, plain .refusedMode)

/-- COUNTING is left for AWAIT_ENDORSE: records removed, NOT_COUNTING raised on every used section, the scrub stopped
(R76, R117, R128, R129). -/
def State.stopCounting (s : State) : State :=
  { s.dropRecords.raiseOn .notCounting none (fun _ => true) with
    mode := .awaitEndorse, scrubTimer := none, scrubPass := false }

/-- WITHDRAW (R158). -/
def State.withdrawEndorsement (l : SupLink) (s : State) : State × Answer :=
  let t := s.setEndorsed l false
  (if s.mode = .counting then t.stopCounting.ask .endorseLost l.other else t, plain .accepted)

/-! ### Meanings -/

/-- POWER_ON (R142). -/
def execPowerOn (s : State) : Out := .next s.powerOn

/-- START_COMPLETE (R147). -/
def execStartComplete (s : State) : Out := .next s.completeStart

/-- CLEARING_COMPLETE (R151). -/
def execClearingComplete (s : State) : Out := .next s.completeClearing

/-- VERIFY_COMPLETE (R154). -/
def execVerifyComplete (s : State) : Out := .next s.completeVerify

/-- SVKEY_INACTIVE (R149). -/
def execSvkeyInactive (s : State) : Out := .next s.keyInactive

/-- LOAD_BEGIN (R150). -/
def execLoadBegin (key : Bool) (s : State) : Out :=
  .next (s.takeSvc .loadBegin (State.judgedByKey key State.refuseBegin State.beginLoad))

/-- LOAD_STATUS (R155). -/
def execLoadStatus (s : State) : Out := .next (s.takeSvc .loadStatus State.loadStatus)

/-- LOAD_INDEX (R152). -/
def execLoadIndex (key : Bool) (table index : Nat) (s : State) : Out :=
  .next (s.takeSvc (.loadIndex table index) (State.judgedByKey key State.refuseWrite (State.setIndex table index)))

/-- MAP_ENTRY (R29, R153). -/
def execMapEntry (key : Bool) (dp : Nat) (terms : List WireTerm) (s : State) : Out :=
  .next (s.takeSvc (.mapEntry dp terms) (State.judgedByKey key State.refuseWrite (State.writeMap dp terms)))

/-- SECTION_ENTRY (R145, R153). -/
def execSectionEntry (key : Bool) (supervision direct settleExt quiet : Nat) (s : State) : Out :=
  .next (s.takeSvc (.sectionEntry supervision direct settleExt quiet)
    (State.judgedByKey key State.refuseWrite (State.writeSect supervision direct settleExt quiet)))

/-- GLOBAL_ENTRY (R145, R153). -/
def execGlobalEntry (key : Bool) (g : Globals) (p0 p1 : LinkParams) (s : State) : Out :=
  .next (s.takeSvc (.globalEntry g p0 p1) (State.judgedByKey key State.refuseWrite (State.writeGlobals g p0 p1)))

/-- LOAD_END (R154). -/
def execLoadEnd (key : Bool) (s : State) : Out :=
  .next (s.takeSvc .loadEnd (State.judgedByKey key State.refuseWrite State.endLoad))

/-- RESTART (R156). -/
def execRestart (key : Bool) (s : State) : Out :=
  .next (s.takeSvc .restart (State.judgedByKey key State.refuseBegin State.restart))

/-- ENDORSE (R157). -/
def execEndorse (l : SupLink) (g : Signature) (s : State) : Out :=
  .next (s.takeSup l (.endorse g) (State.endorse l g))

/-- WITHDRAW (R158). -/
def execWithdraw (l : SupLink) (s : State) : Out := .next (s.takeSup l .withdraw (State.withdrawEndorsement l))

end Sys2Proof.Machine
end

