-- ==== Sys2Proof/Machine/Integrity.lean ====
section
/-! DEFINITION. The Integrity Monitor (chapter 7): the scrub, the clock monitor and HALT_READ. Raising a halt cause is in Ops.lean. -/

namespace Sys2Proof.Machine

/-- SCRUB_PERIOD in ticks (R128). -/
def State.scrubTicks (s : State) : Nat := s.image.globals.scrubPeriod * 1000

/-- The scrub timer has expired (R128). -/
def State.scrubDue (s : State) : Bool :=
  match s.scrubTimer with
  | some e => decide (s.scrubTicks ≤ e)
  | none => false

/-- The expiry of the scrub timer: a pass starts and the timer restarts from 0 (R128). -/
def State.startScrub (s : State) : State :=
  if s.scrubDue then { s with scrubTimer := some 0, scrubPass := true } else s

/-- The value a scrub pass recomputes over what it reads (R129, R146). -/
def State.recomputed (s : State) : ScrubRead → Signature
  | .intact => s.image.signature
  | .altered canon => signatureOf canon

/-- The completion of a scrub pass (R130, R131). -/
def State.completeScrub (s : State) (read : ScrubRead) : State :=
  if s.scrubPass then
    let t := { s with scrubPass := false }
    if s.inForce = some (s.recomputed read) then
      if s.mode = .counting then { t with softErrors := 0 } else t
    else t.raiseHalt .scrubMismatch
  else s

/-- The count at which a window ends by itself, and the bounds of a window that does not deviate (R132). -/
def windowLimit : Nat := 1021

/-- The verdict on a window: it deviates when it ended at 1021 ticks or with fewer than 980 (R132). -/
def deviates (ticks : Nat) : Bool := decide (windowLimit ≤ ticks) || decide (ticks < 980)

/-- The end of a clock monitor window, by its tick count or at the check second (R132, R133; log 16). -/
def State.endClockWindow (s : State) : State :=
  let t := { s with clockTicks := 0 }
  if deviates s.clockTicks then t.raiseHalt .clockDeviation else t

/-- HALT_READ (R140, R171). -/
def State.readHalt (s : State) : State × Answer :=
  (s, ⟨.accepted, [byte (haltCode s.firstCause), byte (haltCode s.subCause), byte s.softErrors]⟩)

/-- SCRUB_START (R128). -/
def execScrubStart (s : State) : Out := .next s.startScrub

/-- SCRUB_COMPLETE (R130). -/
def execScrubComplete (read : ScrubRead) (s : State) : Out := .next (s.completeScrub read)

/-- CLOCK_WINDOW_END (R132). -/
def execClockWindowEnd (s : State) : Out := .next s.endClockWindow

/-- HALT_READ (R140). -/
def execHaltRead (s : State) : Out := .next (s.takeSvc .haltRead State.readHalt)

end Sys2Proof.Machine
end

