-- ==== Sys2Proof/Machine/Counting.lean ====
section
/-! DEFINITION. The Counting Engine (chapters 3 to 5): axle events, head class changes, settle timers, occupancy history, performed resets,
and the event rings that applied events are handed to (R56, R177). -/

namespace Sys2Proof.Machine

/-! ### Counts and states -/

/-- The delta of a term is +1 when its sense matches the direction (R44). -/
def countsIn (sense : Sense) (dir : Dir) : Bool :=
  match sense, dir with
  | .inOnN, .n => true
  | .inOnN, .r => false
  | .inOnR, .n => false
  | .inOnR, .r => true

/-- The largest count (R45). -/
def maxCount : Nat := 2047

/-- The settle timer of a section that enters SETTLING starts at once if every bounding head is FREE in the view (R65, R67). -/
def startSettle (free : Bool) : Option Nat := if free then some 0 else none

/-- A section counted in by an event at a detection point (R47, R49, R51, R52). -/
def Sect.countIn (d : DP) (x : Sect) : Sect :=
  match x.state with
  | .clear => { x with state := .occupied, count := 1, settle := none }
  | .settling => { x with state := .occupied, count := 1, settle := none }
  | .occupied => if x.count < maxCount then { x with count := x.count + 1 } else x.raise .saturation (some d)
  | .sweeping => if x.count < maxCount then { x with count := x.count + 1 } else x.raise .saturation (some d)
  | .restoring => { x with state := .sweeping, count := 1 }
  | .disturbed => { x with count := min (x.count + 1) maxCount }

/-- A section counted out by an event at a detection point (R48, R50, R51, R52). -/
def Sect.countOut (d : DP) (free : Bool) (x : Sect) : Sect :=
  match x.state with
  | .clear => x.raise .underflow (some d)
  | .settling => x.raise .underflow (some d)
  | .occupied =>
    if 2 ≤ x.count then { x with count := x.count - 1 }
    else { x with state := .settling, count := 0, settle := startSettle free }
  | .sweeping =>
    if 2 ≤ x.count then { x with count := x.count - 1 }
    else { x with state := .settling, count := 0, settle := startSettle free }
  | .restoring => x.raise .sweepUnderflow (some d)
  | .disturbed => { x with count := x.count - 1 }

/-! ### Occupancy history -/

/-- How many slots the stored flags have aged: the smaller of e and 8 (R92, R93). -/
def slotsAged (counter stamp : BitVec 16) : Nat := min (counter - stamp).toNat 8

/-- The history view, slot k in bit k (R93). -/
def Sect.historyView (counter : BitVec 16) (x : Sect) : BitVec 8 := x.flags <<< slotsAged counter x.histStamp

/-- The history update of an applied event (R92). -/
def Sect.touchHistory (counter : BitVec 16) (x : Sect) : Sect :=
  { x with flags := x.historyView counter ||| 1#8, histStamp := counter }

/-! ### Axle events -/

/-- One term of an applied event acts on its section: count and state, history, the RCU's record, CHANGE and SELECTED, in the order of
R43 and R53. An unused section is touched by no event (R60; log 20). -/
def State.applyTerm (d : DP) (dir : Dir) (s : State) (t : Term) : State :=
  let k := t.sect
  if s.used k then
    let x := s.sects[k]
    let y := if countsIn t.sense dir then x.countIn d else x.countOut d (s.viewFree k)
    let s1 := (s.setSect k (y.touchHistory s.periodCounter)).dropRecord k
    let s2 := if y.state ≠ x.state then s1.askEach .change fun l => s.supervises l k else s1
    if t.notify then s2.askEach .selected fun l => s.supervises l k else s2
  else s

/-- The records a ring holds at most (R177). -/
def ringSize : Nat := 64

/-- A ring is offered an applied event: it takes the record with the next sequence number or drops it (R177). -/
def Sup.offer (e : AxleEvent) (x : Sup) : Sup :=
  let y := { x with seq := x.seq + 1#8 }
  if ringSize ≤ x.ring.length ∨ (∃ r ∈ x.ring, r.seq = x.seq) then Sup.setNotice .ringGap { y with gap := true }
  else
    let z := { y with ring := x.ring ++ [⟨x.seq, e.dp, e.dir, e.stamp⟩] }
    if x.ring.length = 32 then z.setNotice .ringHalf else z

/-- The hand-off of an applied event to the rings of the routing set (R56). -/
def State.handOff (s : State) (e : AxleEvent) (on : LinkSet) : State :=
  let s := if on.sl0 then { s with lc0 := s.lc0.offer e } else s
  if on.sl1 then { s with lc1 := s.lc1.offer e } else s

/-- Steps 2 and 3 of an applied event: every term, first to last, then the rings (R43). An altered entry that passes its check by chance and
names one section in two terms moves that section twice (DESIGN CHOICE, log 32). -/
def State.applyEvent (s : State) (e : AxleEvent) (terms : List Term) : State :=
  (terms.foldl (State.applyTerm e.dp e.dir) s).handOff e s.routing[e.dp]

/-- An event taken in COUNTING: the lookup with its one or two verified reads, the application, and the halt causes MAP_HARD and
SOFT_LIMIT at the end (R36 to R39, R43, R126, R127, R134). -/
def State.applyAxle (s : State) (e : AxleEvent) (read1 read2 : MapRead) : State :=
  if s.readPasses e.dp read1 then s.applyEvent e (s.readEntry e.dp read1).1.terms
  else if s.readPasses e.dp read2 then
    let t := { s with softErrors := s.softErrors + 1 }.applyEvent e (s.readEntry e.dp read2).1.terms
    if s.image.globals.softLimit ≤ t.softErrors then t.raiseHalt .softLimit else t
  else s.raiseHalt .mapHard

/-- The Counting Engine takes the oldest record of a head, an axle event, and applies or discards it (R42, R62). -/
def State.takeAxle (s : State) (d : DP) (read1 read2 : MapRead) : State :=
  match s.heads[d].outbox with
  | .axle e :: rest =>
    let t := s.setHead d { s.heads[d] with outbox := rest }
    if t.mode = .counting then t.applyAxle e read1 read2 else t
  | .classChange _ :: _ => s
  | [] => s

/-! ### Class changes -/

/-- A bounding head leaves FREE (R70, R71). -/
def Sect.leaveFree (x : Sect) : Sect :=
  match x.state with
  | .clear => { x with state := .settling, settle := none }
  | .settling => { x with settle := none }
  | .occupied => x
  | .disturbed => x
  | .restoring => x
  | .sweeping => x

/-- A bounding head becomes FREE, and every bounding head is FREE or not (R72). -/
def Sect.becomeFree (free : Bool) (x : Sect) : Sect :=
  if x.state = .settling ∧ x.settle = none then { x with settle := startSettle free } else x

/-- A section is in a head's bounding sets (R31). -/
def State.bounds (s : State) (d : DP) (k : SectNo) : Bool := decide (d ∈ s.bounding[k])

/-- A class change taken into the view acts on each section of the head's bounding sets (R62, R71 to R73). -/
def State.applyClass (s : State) (d : DP) (c : HeadClass) : State :=
  let s := { s with view := s.view.set d c }
  match c with
  | .notFree => s.changeSects fun k x => if s.bounds d k then x.leaveFree else x
  | .free => s.changeSects fun k x => if s.bounds d k then x.becomeFree (s.viewFree k) else x
  | .fault => s.raiseOn .headFault (some d) (s.bounds d)

/-- The Counting Engine takes the oldest record of a head, a class change (R62). -/
def State.takeClass (s : State) (d : DP) : State :=
  match s.heads[d].outbox with
  | .classChange c :: rest => (s.setHead d { s.heads[d] with outbox := rest }).applyClass d c
  | .axle _ :: _ => s
  | [] => s

/-! ### Timers of the Counting Engine -/

/-- The settle time of a section in milliseconds (R64). -/
def State.settleTime (s : State) (k : SectNo) : Nat :=
  s.image.globals.settleBase * 100 + s.image.sects[k].settleExt * 100

/-- A running settle timer has reached the settle time (R66). -/
def State.settleDue (s : State) (k : SectNo) : Bool :=
  match s.sects[k].settle with
  | some e => decide (s.settleTime k ≤ e)
  | none => false

/-- The expiry of a settle timer: the section enters CLEAR (R66). -/
def State.takeSettle (s : State) (k : SectNo) : State :=
  if s.settleDue k then
    s.changeSects fun j x => if j = k then { x with state := .clear, count := 0, settle := none } else x
  else s

/-- The history period in ticks (R89). -/
def State.periodTicks (s : State) : Nat := 2 ^ s.image.globals.histExp * 1000

/-- The expiry of the period timer, which runs while an image is in force (R89, R90). -/
def State.takePeriod (s : State) : State :=
  if s.inForce.isSome && decide (s.periodTicks ≤ s.periodTimer) then
    { s with periodTimer := 0, periodCounter := s.periodCounter + 1#16 }
  else s

/-! ### Performed resets -/

/-- The Counting Engine performs a reset and asks for CHANGE (R81 to R83). -/
def State.performReset (s : State) (kind : ResetKind) (k : SectNo) : State :=
  let x := s.sects[k]
  let y : Sect :=
    match kind with
    | .direct =>
      { x with state := .settling, count := 0, cause := .none, causeDP := none, settle := startSettle (s.viewFree k) }
    | .prep => { x with state := .restoring, count := 0, cause := .none, causeDP := none, settle := none }
  (s.setSect k y).askEach .change fun l => s.supervises l k

/-! ### Meanings -/

/-- AXLE_EVENT (R43). -/
def execAxleEvent (d : DP) (read1 read2 : MapRead) (s : State) : Out := .next (s.takeAxle d read1 read2)

/-- HEAD_CLASS_CHANGE (R62). -/
def execHeadClassChange (d : DP) (s : State) : Out := .next (s.takeClass d)

/-- SETTLE_EXPIRY (R66). -/
def execSettleExpiry (k : SectNo) (s : State) : Out := .next (s.takeSettle k)

/-- HISTORY_PERIOD_EXPIRY (R90). -/
def execHistoryPeriodExpiry (s : State) : Out := .next s.takePeriod

end Sys2Proof.Machine
end

