-- ==== Sys2Proof/Machine/Concurrence.lean ====
section
/-! DEFINITION. The Reset Concurrence Unit (chapter 6): the reset requests and their checks, pending records, RESET_CANCEL and the window
timer; and SECTION_DETAIL with the RCU's fields (R88, R108). -/

namespace Sys2Proof.Machine

/-- Checks 1 to 3 of R101: the section the request may act on, or the refusal. -/
def State.checkRequest (s : State) (l : SupLink) (n : Nat) : Except Result SectNo :=
  if s.mode ≠ .counting then .error .refusedMode
  else
    match s.usedSect n with
    | none => .error .refusedRange
    | some k => if s.supervises l k then .ok k else .error .refusedNotSupervisor

/-- Check 4 of R101: the states a reset may be asked for in. -/
def resettable : SectState → Bool
  | .clear => false
  | .occupied => true
  | .settling => false
  | .disturbed => true
  | .restoring => false
  | .sweeping => false

/-- The quiet window check: view slots 0 to W − 1 are clear (R95). -/
def State.quietEnough (s : State) (k : SectNo) : Bool :=
  (List.range s.image.sects[k].quiet).all fun j => !(s.sects[k].historyView s.periodCounter).getLsbD j

/-- Validation, checks 5a to 5c: the first refusal, if there is one (R101, R102). -/
def State.validate (s : State) (kind : ResetKind) (k : SectNo) : Option Result :=
  if !s.headsFree k then some .refusedHead
  else
    match kind with
    | .prep => none
    | .direct =>
      if !s.image.sects[k].direct then some .refusedNotPermitted
      else if !s.quietEnough k then some .refusedRecentTraffic
      else none

/-- A request on a section with no record: refused, performed, or opening a record (R104, R109). -/
def State.openReset (s : State) (kind : ResetKind) (l : SupLink) (k : SectNo) : State × Answer :=
  match s.validate kind k with
  | some r => (s, plain r)
  | none =>
    if s.image.supervision k = .shared then
      ((s.setRecord k (some ⟨kind, l, 0⟩)).ask .concurOpen l.other, plain .pending)
    else (s.performReset kind k, plain .accepted)

/-- A request on a section with an open record (R110 to R112). -/
def State.meetRecord (s : State) (kind : ResetKind) (l : SupLink) (k : SectNo) (r : PendingRecord) : State × Answer :=
  if r.opener = l then (s, plain .refusedDuplicate)
  else if r.kind ≠ kind then (s.dropRecord k, plain .refusedKindMismatch)
  else
    match s.validate kind k with
    | some e => (s.dropRecord k, plain e)
    | none => ((s.performReset kind k).setRecord k none, plain .accepted)

/-- The RCU takes a reset request (R101, R103). -/
def State.requestReset (kind : ResetKind) (l : SupLink) (n : Nat) (s : State) : State × Answer :=
  match s.checkRequest l n with
  | .error e => (s, plain e)
  | .ok k =>
    if !resettable s.sects[k].state then (s, plain .refusedState)
    else
      match s.records[k] with
      | none => s.openReset kind l k
      | some r => s.meetRecord kind l k r

/-- The RCU takes a RESET_CANCEL (R113). -/
def State.cancelReset (l : SupLink) (n : Nat) (s : State) : State × Answer :=
  match s.checkRequest l n with
  | .error e => (s, plain e)
  | .ok k =>
    match s.records[k] with
    | none => (s, plain .refusedNoRecord)
    | some r => if r.opener = l then (s.setRecord k none, plain .accepted) else (s, plain .refusedNoRecord)

/-- CONCUR_WINDOW in ticks (R107). -/
def State.windowTicks (s : State) : Nat := s.image.globals.concurWindow * 1000

/-- A record's window timer has expired (R107). -/
def State.windowDue (s : State) (k : SectNo) : Bool :=
  match s.records[k] with
  | some r => decide (s.windowTicks ≤ r.elapsed)
  | none => false

/-- The expiry of a window timer (R114). -/
def State.takeWindow (s : State) (k : SectNo) : State := if s.windowDue k then s.dropRecord k else s

/-- The window seconds left, rounded up, from 1 to CONCUR_WINDOW (R108; log 19). -/
def State.secondsLeft (s : State) (r : PendingRecord) : Nat := max 1 ((s.windowTicks - r.elapsed + 999) / 1000)

/-- The data of SECTION_DETAIL (R88, R108, R171). -/
def State.detailData (s : State) (k : SectNo) : List Byte :=
  let x := s.sects[k]
  let dp : Nat := match x.causeDP with | some d => d.val | none => 255
  let fields : List Byte :=
    match s.records[k] with
    | none => [byte 0, byte 0, byte 0]
    | some r => [byte (kindCode r.kind), byte (openerCode r.opener), byte (s.secondsLeft r)]
  [byte k.val, byte x.state.code] ++ bytes16 (BitVec.ofNat 16 x.count) ++
    [byte x.cause.code, byte dp, x.historyView s.periodCounter] ++ fields

/-- SECTION_DETAIL (R88). -/
def State.sectDetail (n : Nat) (s : State) : State × Answer :=
  match s.usedSect n with
  | none => (s, plain .refusedRange)
  | some k => (s, ⟨.accepted, s.detailData k⟩)

/-- RESET_PREP (R101). -/
def execResetPrep (l : SupLink) (n : Nat) (s : State) : Out :=
  .next (s.takeSup l (.resetPrep n) (State.requestReset .prep l n))

/-- RESET_DIRECT (R101). -/
def execResetDirect (l : SupLink) (n : Nat) (s : State) : Out :=
  .next (s.takeSup l (.resetDirect n) (State.requestReset .direct l n))

/-- RESET_CANCEL (R113). -/
def execResetCancel (l : SupLink) (n : Nat) (s : State) : Out :=
  .next (s.takeSup l (.resetCancel n) (State.cancelReset l n))

/-- CONCUR_WINDOW_EXPIRY (R114). -/
def execConcurWindowExpiry (k : SectNo) (s : State) : Out := .next (s.takeWindow k)

/-- SECTION_DETAIL (R88). -/
def execSectionDetail (l : SupLink) (n : Nat) (s : State) : Out :=
  .next (s.takeSup l (.sectionDetail n) (State.sectDetail n))

end Sys2Proof.Machine
end

