-- ==== Sys2Proof/Machine/Reports.lean ====
section
/-! DEFINITION. The supervisory controllers' own work (chapter 10): the report timer, notices and attention lines, and the contents of
STATUS and EVENTS telegrams. -/

namespace Sys2Proof.Machine

/-- LINE_RATE in bit/s (R144). -/
def rateOf (lineRate : Nat) : Nat :=
  match lineRate with
  | 0 => 19200
  | 1 => 38400
  | 2 => 57600
  | _ => 115200

/-- The rate a supervisory line is to run at: the image's LINE_RATE in force, 19,200 bit/s with no image in force (R159, R172). -/
def State.targetRate (s : State) (l : SupLink) : Nat :=
  if s.inForce.isSome then rateOf (s.image.params l).lineRate else 19200

/-- REPORT_EXP in use (R159, R172). -/
def State.reportExp (s : State) (l : SupLink) : Nat :=
  if s.inForce.isSome then (s.image.params l).reportExp else 7

/-- The used sections that a link supervises, ascending (R173). -/
def State.supervised (s : State) (l : SupLink) : List SectNo := (List.finRange 24).filter (s.supervises l)

/-- The bits of a link's longest STATUS telegram and its gap (R172). -/
def State.statusBits (s : State) (l : SupLink) : Nat := (9 + 2 * (s.supervised l).length) * 11 + 22

/-- The smallest power of two of milliseconds, from p upwards, that covers a number of bits at a rate (R172). -/
def coveringPower (bits rate : Nat) : Nat → Nat → Nat
  | 0, p => p
  | more + 1, p => if bits * 1000 ≤ p * rate then p else coveringPower bits rate more (2 * p)

/-- The effective report period of a link in ms (R172). -/
def State.reportPeriod (s : State) (l : SupLink) : Nat :=
  let set := 2 ^ s.reportExp l
  if s.statusBits l * 1000 ≤ set * s.targetRate l then set
  else coveringPower (s.statusBits l) (s.targetRate l) 16 1

/-- The expiry of a report timer sets the status-due flag (R172). -/
def State.takeReport (s : State) (l : SupLink) : State :=
  if s.reportPeriod l ≤ (s.sup l).reportTimer then s.setSup l { s.sup l with reportTimer := 0, statusDue := true } else s

/-- The state byte of a section as a link sees it (R108, R171). -/
def State.stateByte (s : State) (l : SupLink) (k : SectNo) : Byte :=
  let code := s.sects[k].state.code
  match s.records[k] with
  | none => byte code
  | some r => byte (code + 8 + 16 * kindCode r.kind + if r.opener = l then 64 else 0)

/-- The payload of a STATUS telegram (R171, R173). -/
def State.statusPayload (s : State) (l : SupLink) : List Byte :=
  byte s.mode.code :: bytes16 ((s.sup l).notices.setWidth 16) ++ [(s.sup l).line.flagsByte]
    ++ (s.supervised l).flatMap fun k => [byte k.val, s.stateByte l k]

/-- One record of an EVENTS telegram (R171). -/
def eventBytes (r : EventRecord) : List Byte :=
  [r.seq, byte r.dp.val, byte (dirCode r.dir)] ++ bytes16 r.stamp

/-- The records an EVENTS telegram takes at most (R178). -/
def eventsTaken : Nat := 6

/-- The payload of an EVENTS telegram (R171, R178). -/
def eventsPayload (x : Sup) : List Byte :=
  let records := x.ring.take eventsTaken
  byte (if x.gap then 1 else 0) :: byte records.length :: records.flatMap eventBytes

/-- A controller takes a request to set a notice (R174). -/
def State.takeAsked (s : State) (l : SupLink) (n : Notice) : State :=
  if n ∈ (s.sup l).asked then
    s.setSup l (Sup.setNotice n { s.sup l with asked := (s.sup l).asked.erase n })
  else s

/-- The end of an attention pulse (R176). -/
def State.takePulseEnd (s : State) (l : SupLink) : State := s.setSup l (s.sup l).endPulse

/-- REPORT_TIMER_EXPIRY (R172). -/
def execReportTimerExpiry (l : SupLink) (s : State) : Out := .next (s.takeReport l)

/-- NOTICE_SET (R174). -/
def execNoticeSet (l : SupLink) (n : Notice) (s : State) : Out := .next (s.takeAsked l n)

/-- ATTN_PULSE_END (R176). -/
def execAttnPulseEnd (l : SupLink) (s : State) : Out := .next (s.takePulseEnd l)

/-- NOTICE_ACK (R175). -/
def execNoticeAck (l : SupLink) (mask : BitVec 16) (s : State) : Out :=
  .next (s.takeSup l (.noticeAck mask) fun t => (t.setSup l ((t.sup l).ackNotices mask), plain .accepted))

/-- NOTICE_MASK (R175). -/
def execNoticeMask (l : SupLink) (mask : BitVec 16) (attention : Nat) (s : State) : Out :=
  .next (s.takeSup l (.noticeMask mask attention) fun t =>
    (t.setSup l ((t.sup l).takeMask mask attention), plain .accepted))

end Sys2Proof.Machine
end

