-- ==== Sys2Proof/Machine/Links.lean ====
section
/-! DEFINITION. The link lines (chapter 9): receiving characters and telegrams, the response slot, the transmitters and the line rates. -/

namespace Sys2Proof.Machine

/-- The bytes a receiver holds at most (R163). -/
def maxHeld : Nat := 64

/-- A character taken in RECEIVING (R163). -/
def takeCharacter (held : List Byte) (c : Character) : Receiver :=
  if goodCharacter c && decide (held.length < maxHeld) then .receiving (held ++ [c.data]) else .discarding

/-- A character arrives (R163). -/
def Receiver.next (rx : Receiver) (c : Character) : Receiver :=
  match rx with
  | .idle => takeCharacter [] c
  | .receiving held => takeCharacter held c
  | .discarding => .discarding

/-- The receiving direction takes its new rate at an idle moment (R159). -/
def State.settleRxRate (s : State) (l : Link) : State :=
  match l with
  | .svl => s
  | .sup l =>
    if (s.sup l).line.rx = .idle then
      s.setSup l { s.sup l with line := { (s.sup l).line with rxRate := s.targetRate l } }
    else s

/-- The transmitting direction takes its new rate at an idle moment (R159). -/
def State.settleTxRate (s : State) (l : Link) : State :=
  match l with
  | .svl => s
  | .sup l =>
    if (s.sup l).line.tx = .idle then
      s.setSup l { s.sup l with line := { (s.sup l).line with txRate := s.targetRate l } }
    else s

/-- A character on a line (R163); a line found idle has had its idle moment (R159; log 17). -/
def State.takeChar (s : State) (l : Link) (c : Character) : State :=
  let t := s.settleRxRate l
  t.setLine l { t.line l with rx := (t.line l).rx.next c }

/-- A telegram rejected: the line-fault flag, and on a supervisory link the LINE_FAULT notice (R164). -/
def State.reject (s : State) (l : Link) : State :=
  let t := s.setLine l { s.line l with lineFault := true }
  match l with
  | .sup l => t.setNotice .lineFault l
  | .svl => t

/-- The controller answers a malformed request itself (R165). -/
def State.malformed (s : State) (l : Link) (kind : Byte) : State := s.respond l kind (plain .refusedRange)

/-- An accepted request of a supervisory link: the slot, the payload check, then handed on (R165, R166). -/
def State.acceptSup (s : State) (l : SupLink) (kind : Byte) (payload : List Byte) : State :=
  if (s.sup l).handed.isSome || (s.sup l).line.slot.isSome then s.overrunOn (.sup l)
  else
    match parseSup kind payload with
    | none => s.malformed (.sup l) kind
    | some r => s.setSup l { s.sup l with handed := some r }

/-- An accepted request of the service link (R165, R166). -/
def State.acceptSvc (s : State) (kind : Byte) (payload : List Byte) : State :=
  if s.lcs.handed.isSome || s.lcs.line.slot.isSome then s.overrunOn .svl
  else
    match parseSvc kind payload with
    | none => s.malformed .svl kind
    | some r => { s with lcs := { s.lcs with handed := some r } }

/-- A telegram judged at its end (R164). -/
def State.judgeTelegram (s : State) (l : Link) (bytes : List Byte) : State :=
  match acceptTelegram l bytes with
  | none => s.reject l
  | some (kind, payload) =>
    match l with
    | .sup l => s.acceptSup l kind payload
    | .svl => s.acceptSvc kind payload

/-- 22 idle bit times (R163, R164). -/
def State.endTelegram (s : State) (l : Link) : State :=
  let t := s.setLine l { s.line l with rx := .idle }
  match (s.line l).rx with
  | .idle => s
  | .receiving held => t.judgeTelegram l held
  | .discarding => t.reject l

/-- The transmitter starts a telegram, whose characters it sends back to back (R161, R167). -/
def Line.start (x : Line) (bytes : List Byte) : Line := { x with tx := .sending (sentCharacters bytes) }

/-- The transmitter starts a telegram that carries the link flags, which are cleared (R166, R167). -/
def Line.startFlagged (x : Line) (bytes : List Byte) : Line :=
  { x.start bytes with overrun := false, lineFault := false }

/-- The bytes of a RESPONSE telegram (R171). -/
def responseBytes (x : Line) (r : Response) : List Byte :=
  telegram 0x82#8 ([r.kind, byte r.result.code, x.flagsByte] ++ r.data)

/-- The idle transmitter starts the RESPONSE that waits in the slot, and the slot empties (R166, R167). -/
def State.startResponse (s : State) (l : Link) : State :=
  match (s.line l).tx, (s.line l).slot with
  | .idle, some r =>
    let t := s.settleTxRate l
    let x := t.line l
    t.setLine l { x.startFlagged (responseBytes x r) with slot := none }
  | _, _ => s

/-- The idle transmitter starts a STATUS telegram, if one is due and no response waits (R167, R173). -/
def State.startStatus (s : State) (l : SupLink) : State :=
  if (s.sup l).line.tx = .idle ∧ (s.sup l).line.slot = none ∧ (s.sup l).statusDue = true then
    let t := s.settleTxRate (.sup l)
    let x := t.sup l
    t.setSup l { x with statusDue := false, line := x.line.startFlagged (telegram 0x81#8 (t.statusPayload l)) }
  else s

/-- The idle transmitter starts an EVENTS telegram, if the ring holds a record and neither a response nor a status waits (R167, R178). -/
def State.startEvents (s : State) (l : SupLink) : State :=
  if (s.sup l).line.tx = .idle ∧ (s.sup l).line.slot = none ∧ (s.sup l).statusDue = false ∧ (s.sup l).ring ≠ [] then
    let t := s.settleTxRate (.sup l)
    let x := t.sup l
    t.setSup l
      { x with
        ring := x.ring.drop eventsTaken
        gap := false
        line := x.line.start (telegram 0x83#8 (eventsPayload x)) }
  else s

/-- The last stop bit of a telegram is sent (R167). -/
def Transmitter.sent : Transmitter → Transmitter
  | .idle => .idle
  | .sending _ => .gap
  | .gap => .gap

/-- 22 bit times of gap have passed (R167). -/
def Transmitter.gapOver : Transmitter → Transmitter
  | .idle => .idle
  | .sending chars => .sending chars
  | .gap => .idle

def State.endTransmit (s : State) (l : Link) : State := s.setLine l { s.line l with tx := (s.line l).tx.sent }

def State.endGap (s : State) (l : Link) : State := s.setLine l { s.line l with tx := (s.line l).tx.gapOver }

/-- CHARACTER_RECEIVED (R163). -/
def execCharacterReceived (l : Link) (c : Character) (s : State) : Out := .next (s.takeChar l c)

/-- TELEGRAM_END (R164). -/
def execTelegramEnd (l : Link) (s : State) : Out := .next (s.endTelegram l)

/-- RESPONSE_START (R167). -/
def execResponseStart (l : Link) (s : State) : Out := .next (s.startResponse l)

/-- STATUS_START (R173). -/
def execStatusStart (l : SupLink) (s : State) : Out := .next (s.startStatus l)

/-- EVENTS_START (R178). -/
def execEventsStart (l : SupLink) (s : State) : Out := .next (s.startEvents l)

/-- TRANSMIT_END (R167). -/
def execTransmitEnd (l : Link) (s : State) : Out := .next (s.endTransmit l)

/-- GAP_END (R167). -/
def execGapEnd (l : Link) (s : State) : Out := .next (s.endGap l)

/-- LINE_RATE_CHANGE (R159). -/
def execLineRateChange (l : SupLink) (flow : Flow) (s : State) : Out :=
  .next (match flow with | .receive => s.settleRxRate (.sup l) | .transmit => s.settleTxRate (.sup l))

end Sys2Proof.Machine
end

