-- ==== Sys2Proof/Machine/Timebase.lean ====
section
/-! DEFINITION. The Timebase (R1): a sampling step reads every detection point (R2, R3, R19), and every tenth one is a millisecond tick, which
every timer of the device counts. -/

namespace Sys2Proof.Machine

/-! ### One sampling step at a head -/

/-- The candidate count of a channel at a step (R3): a raw level unlike the qualified one raises it. A raw level that has come back leaves it
above 0 until the glitch is taken. -/
def nextCandidate (raw q : Bool) (cand : Nat) : Nat := if raw = q then cand else cand + 1

/-- The recovery condition at a step, on the qualified levels as the step finds them (R19; log 5). -/
def Head.quiet (x : Sample) (h : Head) : Bool :=
  !x.fault && !h.q1 && !h.q2 && (x.ch1 == h.raw1) && (x.ch2 == h.raw2)

/-- The states in which the recovery timer runs (R19, R20). -/
def HeadState.recovers : HeadState → Bool
  | .unknown => true
  | .free => false
  | .n1 => false
  | .n2 => false
  | .n3 => false
  | .r2 => false
  | .r3 => false
  | .r4 => false
  | .fault => true

/-- One sample read at a head (R2, R3, R19, R20); in the held modes the recovery timer does not run (R25). -/
def Head.sample (running : Bool) (limit : Nat) (x : Sample) (h : Head) : Head :=
  { h with
    cand1 := nextCandidate x.ch1 h.q1 h.cand1
    cand2 := nextCandidate x.ch2 h.q2 h.cand2
    raw1 := x.ch1
    raw2 := x.ch2
    faultIn := x.fault
    recovery :=
      if running && h.state.recovers then
        if h.quiet x then min (h.recovery + 1) limit else 0
      else h.recovery }

/-- Every detection point is read (R2), and pulses on the attention lines age by a step (R176). -/
def State.sampleAll (s : State) (inputs : Vector Sample 32) : State :=
  { s with
    stepNo := s.stepNo + 1
    heads := tabulate fun d => s.heads[d].sample s.mode.running s.recoverySteps inputs[d]
    lc0 := { s.lc0 with pulse := s.lc0.pulse.map fun e => min (e + 1) pulseSteps }
    lc1 := { s.lc1 with pulse := s.lc1.pulse.map fun e => min (e + 1) pulseSteps } }

/-! ### One millisecond tick -/

/-- A settle timer counts a tick (R65). -/
def Sect.tick (limit : Nat) (x : Sect) : Sect := { x with settle := x.settle.map fun e => min (e + 1) limit }

/-- A millisecond tick: the stamp advances, and every timer that runs counts it, at most to its limit (R1, R65, R89, R107, R128, R132, R147,
R151, R154, R172; log 25). -/
def State.tick (s : State) : State :=
  { s with
    stamp := s.stamp + 1#16
    drainDue := s.drainDue || decide (s.stepNo % 1000 = 0)
    sects := tabulate fun k => s.sects[k].tick (s.settleTime k)
    periodTimer := if s.inForce.isSome then min (s.periodTimer + 1) s.periodTicks else s.periodTimer
    records := tabulate fun k => s.records[k].map fun r => { r with elapsed := min (r.elapsed + 1) s.windowTicks }
    scrubTimer := s.scrubTimer.map fun e => min (e + 1) s.scrubTicks
    clockTicks := min (s.clockTicks + 1) windowLimit
    opTimer := min (s.opTimer + 1) s.opTicks
    lc0 := { s.lc0 with reportTimer := min (s.lc0.reportTimer + 1) (s.reportPeriod .sl0) }
    lc1 := { s.lc1 with reportTimer := min (s.lc1.reportTimer + 1) (s.reportPeriod .sl1) } }

/-! ### What earlier steps made due -/

/-- What the latest sampling step made due at one head (R3, R16, R18 to R20). -/
def State.takeHead (s : State) (d : DP) : State :=
  (((((s.takeFaultInput d).takeGlitch d).takeChange d).takeRecovery d .fault).takeRecovery d .unknown)

/-- A clock window that has reached its tick count ends by itself (R132). -/
def State.takeFullWindow (s : State) : State := if windowLimit ≤ s.clockTicks then s.endClockWindow else s

/-- Every event that the sampling steps so far made due and no command has taken, head events first and then expiries, before time goes on
(DESIGN CHOICE for their order, log 3). -/
@[irreducible] def State.takeDue (s : State) : State :=
  let s := ((List.finRange 32).foldl State.takeHead s).drainBuckets
  let s := ((List.finRange 24).foldl State.takeSettle s).takePeriod
  let s := ((List.finRange 24).foldl State.takeWindow s).startScrub.takeFullWindow
  let s := s.completeStart.completeClearing.completeVerify
  (((s.takeReport .sl0).takeReport .sl1).takePulseEnd .sl0).takePulseEnd .sl1

/-- One sampling step: what is due is taken, every input group is read, and at every tenth step the tick follows (R1, R2). -/
def State.sampling (s : State) (inputs : Vector Sample 32) : State :=
  let t := s.takeDue.sampleAll inputs
  if t.stepNo % 10 = 0 then t.tick else t

/-- SAMPLING_STEP (R2). -/
def execSamplingStep (inputs : Vector Sample 32) (s : State) : Out := .next (s.sampling inputs)

end Sys2Proof.Machine
end

