-- ==== Sys2Proof/Machine/Dispatch.lean ====
section
/-! DEFINITION. One arm per command, in the order of spec/opcode_table.json; each arm is one call of the command's meaning. -/

namespace Sys2Proof.Machine

def exec (i : Instr) (s : State) : Host.Outcome State Fault Refusal :=
  match i with
  | .powerOn => Sys2Proof.Machine.execPowerOn s
  | .qualifiedChange dp => Sys2Proof.Machine.execQualifiedChange dp s
  | .glitch dp => Sys2Proof.Machine.execGlitch dp s
  | .bucketDrain => Sys2Proof.Machine.execBucketDrain s
  | .frontEndFault dp => Sys2Proof.Machine.execFrontEndFault dp s
  | .headRecovery dp => Sys2Proof.Machine.execHeadRecovery dp s
  | .unknownRecovery dp => Sys2Proof.Machine.execUnknownRecovery dp s
  | .axleEvent dp read1 read2 => Sys2Proof.Machine.execAxleEvent dp read1 read2 s
  | .headClassChange dp => Sys2Proof.Machine.execHeadClassChange dp s
  | .settleExpiry sect => Sys2Proof.Machine.execSettleExpiry sect s
  | .historyPeriodExpiry => Sys2Proof.Machine.execHistoryPeriodExpiry s
  | .concurWindowExpiry sect => Sys2Proof.Machine.execConcurWindowExpiry sect s
  | .scrubStart => Sys2Proof.Machine.execScrubStart s
  | .scrubComplete read => Sys2Proof.Machine.execScrubComplete read s
  | .clockWindowEnd => Sys2Proof.Machine.execClockWindowEnd s
  | .startComplete => Sys2Proof.Machine.execStartComplete s
  | .clearingComplete => Sys2Proof.Machine.execClearingComplete s
  | .verifyComplete => Sys2Proof.Machine.execVerifyComplete s
  | .svkeyInactive => Sys2Proof.Machine.execSvkeyInactive s
  | .resetPrep link sect => Sys2Proof.Machine.execResetPrep link sect s
  | .resetDirect link sect => Sys2Proof.Machine.execResetDirect link sect s
  | .resetCancel link sect => Sys2Proof.Machine.execResetCancel link sect s
  | .sectionDetail link sect => Sys2Proof.Machine.execSectionDetail link sect s
  | .noticeAck link mask => Sys2Proof.Machine.execNoticeAck link mask s
  | .noticeMask link mask attention => Sys2Proof.Machine.execNoticeMask link mask attention s
  | .endorse link signature => Sys2Proof.Machine.execEndorse link signature s
  | .withdraw link => Sys2Proof.Machine.execWithdraw link s
  | .loadBegin key => Sys2Proof.Machine.execLoadBegin key s
  | .loadStatus => Sys2Proof.Machine.execLoadStatus s
  | .loadIndex key table index => Sys2Proof.Machine.execLoadIndex key table index s
  | .mapEntry key dp terms => Sys2Proof.Machine.execMapEntry key dp terms s
  | .sectionEntry key supervision direct settleExt quiet => Sys2Proof.Machine.execSectionEntry key supervision direct settleExt quiet s
  | .globalEntry key g p0 p1 => Sys2Proof.Machine.execGlobalEntry key g p0 p1 s
  | .loadEnd key => Sys2Proof.Machine.execLoadEnd key s
  | .restart key => Sys2Proof.Machine.execRestart key s
  | .headRead dp => Sys2Proof.Machine.execHeadRead dp s
  | .haltRead => Sys2Proof.Machine.execHaltRead s
  | .telegramEnd link => Sys2Proof.Machine.execTelegramEnd link s
  | .responseStart link => Sys2Proof.Machine.execResponseStart link s
  | .statusStart link => Sys2Proof.Machine.execStatusStart link s
  | .eventsStart link => Sys2Proof.Machine.execEventsStart link s
  | .transmitEnd link => Sys2Proof.Machine.execTransmitEnd link s
  | .gapEnd link => Sys2Proof.Machine.execGapEnd link s
  | .reportTimerExpiry link => Sys2Proof.Machine.execReportTimerExpiry link s
  | .lineRateChange link flow => Sys2Proof.Machine.execLineRateChange link flow s
  | .noticeSet link notice => Sys2Proof.Machine.execNoticeSet link notice s
  | .attnPulseEnd link => Sys2Proof.Machine.execAttnPulseEnd link s
  | .samplingStep inputs => Sys2Proof.Machine.execSamplingStep inputs s
  | .characterReceived link char => Sys2Proof.Machine.execCharacterReceived link char s

end Sys2Proof.Machine
end

