-- ==== Sys2Proof/WellFormed.lean ====
section
/-! DEFINITION. What a command's operands must be for the command to stand for a step of the part: every number that a layout
carries as one byte fits in one byte (R170), and lists have the lengths that the storage and the telegrams allow. -/

namespace Sys2Proof

/-- A number that a layout carries as one byte (R170). -/
def fitsByte (n : Nat) : Bool := n ≤ 255

/-- A map entry holds at most four terms (R27). -/
def MapEntry.wellFormed (e : MapEntry) : Bool := e.terms.length ≤ 4

/-- What a map read can give: an entry has at most four terms (R27). -/
def MapRead.wellFormed : MapRead → Bool
  | .intact => true
  | .altered e _ => e.wellFormed

/-- What a scrub pass can read: 110 numbers before the map, then 32 entries of 2 to 10 numbers (R146, R33). -/
def ScrubRead.wellFormed : ScrubRead → Bool
  | .intact => true
  | .altered canon => 174 ≤ canon.length && canon.length ≤ 430

/-- GLOBAL_ENTRY carries each global parameter as one byte (R170). -/
def Globals.fitsBytes (g : Globals) : Bool :=
  fitsByte g.settleBase && fitsByte g.qual && fitsByte g.minPassage && fitsByte g.minFree && fitsByte g.glitchLimit &&
  fitsByte g.recovery && fitsByte g.concurWindow && fitsByte g.histExp && fitsByte g.softLimit && fitsByte g.scrubPeriod

/-- GLOBAL_ENTRY carries each link parameter as one byte (R170). -/
def LinkParams.fitsBytes (p : LinkParams) : Bool := fitsByte p.lineRate && fitsByte p.reportExp

/-- A MAP_ENTRY payload of at most 59 bytes carries at most 28 terms (R161, R170). -/
def wireTermsFit (ts : List WireTerm) : Bool := ts.length ≤ 28 && ts.all fun t => fitsByte t.sect

/-- The check of a whole command. -/
def Instr.wellFormed : Instr → Bool
  | .powerOn => true
  | .qualifiedChange _ => true
  | .glitch _ => true
  | .bucketDrain => true
  | .frontEndFault _ => true
  | .headRecovery _ => true
  | .unknownRecovery _ => true
  | .axleEvent _ read1 read2 => read1.wellFormed && read2.wellFormed
  | .headClassChange _ => true
  | .settleExpiry _ => true
  | .historyPeriodExpiry => true
  | .concurWindowExpiry _ => true
  | .scrubStart => true
  | .scrubComplete read => read.wellFormed
  | .clockWindowEnd => true
  | .startComplete => true
  | .clearingComplete => true
  | .verifyComplete => true
  | .svkeyInactive => true
  | .resetPrep _ sect => fitsByte sect
  | .resetDirect _ sect => fitsByte sect
  | .resetCancel _ sect => fitsByte sect
  | .sectionDetail _ sect => fitsByte sect
  | .noticeAck _ _ => true
  | .noticeMask _ _ attention => fitsByte attention
  | .endorse _ _ => true
  | .withdraw _ => true
  | .loadBegin _ => true
  | .loadStatus => true
  | .loadIndex _ table index => fitsByte table && fitsByte index
  | .mapEntry _ dp terms => fitsByte dp && wireTermsFit terms
  | .sectionEntry _ supervision direct settleExt quiet =>
      fitsByte supervision && fitsByte direct && fitsByte settleExt && fitsByte quiet
  | .globalEntry _ g p0 p1 => g.fitsBytes && p0.fitsBytes && p1.fitsBytes
  | .loadEnd _ => true
  | .restart _ => true
  | .headRead dp => fitsByte dp
  | .haltRead => true
  | .telegramEnd _ => true
  | .responseStart _ => true
  | .statusStart _ => true
  | .eventsStart _ => true
  | .transmitEnd _ => true
  | .gapEnd _ => true
  | .reportTimerExpiry _ => true
  | .lineRateChange _ _ => true
  | .noticeSet _ _ => true
  | .attnPulseEnd _ => true
  | .samplingStep _ => true
  | .characterReceived _ _ => true

end Sys2Proof
end

