-- ==== Sys2Proof/Safety.lean ====
section
/-! DEFINITION. What statements are made with: when a request is free to be taken, and the laws that every step keeps. A law is a
property of every state that a run can reach; some clauses are there only because the law would not be kept without them. -/

namespace Sys2Proof.Machine

/-! ### Requests -/

/-- A supervisory request is free to be taken: its controller has handed it on, or it arrives with nothing handed on and an empty slot
(R165, R166; log 6). -/
def State.readySup (s : State) (l : SupLink) (r : SupRequest) : Prop :=
  (s.sup l).handed = some r ∨ ((s.sup l).handed = none ∧ (s.sup l).line.slot = none)

/-- The state with nothing handed on at a supervisory link. -/
def State.unhandSup (s : State) (l : SupLink) : State := s.setSup l { s.sup l with handed := none }

/-- A service request is free to be taken (R165, R166; log 6). -/
def State.readySvc (s : State) (r : SvcRequest) : Prop :=
  s.lcs.handed = some r ∨ (s.lcs.handed = none ∧ s.lcs.line.slot = none)

/-- The state with nothing handed on at the service link. -/
def State.unhandSvc (s : State) : State := { s with lcs := { s.lcs with handed := none } }

/-! ### What statements compare with: the spec's tables in their own form -/

/-- The table of counting (03 section 3.4, R47 to R52): the state and count after a delta, and the cause raised, if one is. -/
def countTable (x : SectState) (n : Nat) (inward : Bool) : SectState × Nat × Option Cause :=
  match x, inward with
  | .clear, true => (.occupied, 1, none)
  | .clear, false => (.disturbed, 0, some .underflow)
  | .settling, true => (.occupied, 1, none)
  | .settling, false => (.disturbed, 0, some .underflow)
  | .occupied, true => if n = 2047 then (.disturbed, 2047, some .saturation) else (.occupied, n + 1, none)
  | .occupied, false => if n = 1 then (.settling, 0, none) else (.occupied, n - 1, none)
  | .sweeping, true => if n = 2047 then (.disturbed, 2047, some .saturation) else (.sweeping, n + 1, none)
  | .sweeping, false => if n = 1 then (.settling, 0, none) else (.sweeping, n - 1, none)
  | .restoring, true => (.sweeping, 1, none)
  | .restoring, false => (.disturbed, 0, some .sweepUnderflow)
  | .disturbed, true => (.disturbed, if n = 2047 then 2047 else n + 1, none)
  | .disturbed, false => (.disturbed, if n = 0 then 0 else n - 1, none)

/-- A term counts a section in (R44). -/
def inwardBy (sense : Sense) (dir : Dir) : Bool :=
  (decide (sense = .inOnN) && decide (dir = .n)) || (decide (sense = .inOnR) && decide (dir = .r))

/-- What the removal of a section's record asks a controller for (R118). -/
def State.lapses (s : State) (k : SectNo) (l : SupLink) : List Notice :=
  match s.records[k] with
  | none => []
  | some r => if r.opener = l then [.concurLapsed] else []

/-- What a changed state code asks a controller for (R116, R85, R86). -/
def State.reports (s : State) (new : SectNo → Sect) (l : SupLink) : List Notice :=
  (List.finRange 24).flatMap fun k =>
    if s.used k = true ∧ (new k).state ≠ s.sects[k].state then
      s.lapses k l ++ if s.supervises l k then [.change] else []
    else []

/-- New section records with what R85 makes of them: the record of a used section whose state code changes is removed with CONCUR_LAPSED
asked for on its opener (R116), and CHANGE is asked for on each link that supervises it (R86). -/
def State.reported (s : State) (new : SectNo → Sect) : State :=
  { s with
    sects := tabulate new
    records := tabulate fun k => if s.used k = true ∧ (new k).state ≠ s.sects[k].state then none else s.records[k]
    lc0 := { s.lc0 with asked := s.lc0.asked ++ s.reports new .sl0 }
    lc1 := { s.lc1 with asked := s.lc1.asked ++ s.reports new .sl1 } }

/-- The command by which a request of a supervisory link arrives. -/
def supCommand (l : SupLink) : SupRequest → Instr
  | .resetPrep k => .resetPrep l k
  | .resetDirect k => .resetDirect l k
  | .resetCancel k => .resetCancel l k
  | .sectionDetail k => .sectionDetail l k
  | .noticeAck m => .noticeAck l m
  | .noticeMask m a => .noticeMask l m a
  | .endorse g => .endorse l g
  | .withdraw => .withdraw l

/-- The command by which a request of the service link arrives, under a level of SVKEY (R148). -/
def svcCommand (key : Bool) : SvcRequest → Instr
  | .loadBegin => .loadBegin key
  | .loadStatus => .loadStatus
  | .loadIndex t i => .loadIndex key t i
  | .mapEntry d ts => .mapEntry key d ts
  | .sectionEntry a b c d => .sectionEntry key a b c d
  | .globalEntry g p q => .globalEntry key g p q
  | .loadEnd => .loadEnd key
  | .restart => .restart key
  | .headRead d => .headRead d
  | .haltRead => .haltRead

/-- The reset request of a kind. -/
def resetCommand (kind : ResetKind) (l : SupLink) (n : Nat) : Instr :=
  match kind with
  | .prep => .resetPrep l n
  | .direct => .resetDirect l n

/-- The same as the controller hands it on. -/
def resetRequest (kind : ResetKind) (n : Nat) : SupRequest :=
  match kind with
  | .prep => .resetPrep n
  | .direct => .resetDirect n

/-- A reset request answered, with whatever the RCU made of the state. -/
def answeredReset (kind : ResetKind) (l : SupLink) (s : State) (r : Result) : State :=
  s.respond (.sup l) (match kind with | .prep => 0x11#8 | .direct => 0x12#8) ⟨r, []⟩

/-- The validation of R101 to R102: checks 5a to 5c. -/
def validation (s : State) (kind : ResetKind) (k : SectNo) : Option Result :=
  if ¬ ∀ d ∈ s.bounding[k], s.heads[d].state = .free then some .refusedHead
  else if kind = .prep then none
  else if s.image.sects[k].direct = false then some .refusedNotPermitted
  else if ∀ j : Fin 8, j.val < s.image.sects[k].quiet → (s.sects[k].historyView s.periodCounter).getLsbD j.val = false then none
  else some .refusedRecentTraffic

/-- A reset performed on a section record (R81 to R83). -/
def Sect.afterReset (kind : ResetKind) (free : Bool) (x : Sect) : Sect :=
  match kind with
  | .direct =>
    { x with state := .settling, count := 0, cause := .none, causeDP := none, settle := if free then some 0 else none }
  | .prep => { x with state := .restoring, count := 0, cause := .none, causeDP := none, settle := none }

/-- A value raised to a lower bound or lowered to an upper one (R145). -/
def within (lo hi n : Nat) : Nat := if n < lo then lo else if hi < n then hi else n

/-- The payload of a supervisory request, laid out as R170 gives. -/
def supPayload : SupRequest → List Byte
  | .resetPrep k => [byte k]
  | .resetDirect k => [byte k]
  | .resetCancel k => [byte k]
  | .sectionDetail k => [byte k]
  | .noticeAck m => bytes16 m
  | .noticeMask m a => bytes16 m ++ [byte a]
  | .endorse g => bytes32 g
  | .withdraw => []

/-- The payload of a service request, laid out as R170 gives. -/
def svcPayload : SvcRequest → List Byte
  | .loadBegin => []
  | .loadStatus => []
  | .loadIndex t i => [byte t, byte i]
  | .mapEntry d ts => byte d :: byte ts.length :: ts.flatMap fun t => [byte t.sect, byte (flagsNumber t.sense t.notify)]
  | .sectionEntry a b c d => [byte a, byte b, byte c, byte d]
  | .globalEntry g p q => (g.toList ++ [p.lineRate, p.reportExp, q.lineRate, q.reportExp]).map byte
  | .loadEnd => []
  | .restart => []
  | .headRead d => [byte d]
  | .haltRead => []

/-- The fields of a supervisory request fit their bytes (R170). -/
def supFits : SupRequest → Bool
  | .resetPrep k => fitsByte k
  | .resetDirect k => fitsByte k
  | .resetCancel k => fitsByte k
  | .sectionDetail k => fitsByte k
  | .noticeAck _ => true
  | .noticeMask _ a => fitsByte a
  | .endorse _ => true
  | .withdraw => true

/-- The fields of a service request fit their bytes, and its terms their telegram (R161, R170). -/
def svcFits : SvcRequest → Bool
  | .loadBegin => true
  | .loadStatus => true
  | .loadIndex t i => fitsByte t && fitsByte i
  | .mapEntry d ts => fitsByte d && wireTermsFit ts
  | .sectionEntry a b c d => fitsByte a && fitsByte b && fitsByte c && fitsByte d
  | .globalEntry g p q => g.fitsBytes && p.fitsBytes && q.fitsBytes
  | .loadEnd => true
  | .restart => true
  | .headRead d => fitsByte d
  | .haltRead => true

/-! ### Sections -/

/-- The counts that go with each state (R61). -/
def countFits (x : SectState) (n : Nat) : Prop :=
  match x with
  | .clear => n = 0
  | .occupied => 1 ≤ n ∧ n ≤ 2047
  | .settling => n = 0
  | .disturbed => n ≤ 2047
  | .restoring => n = 0
  | .sweeping => 1 ≤ n ∧ n ≤ 2047

/-- The causes that concern a detection point (R63). -/
def Cause.hasDP : Cause → Bool
  | .none => false
  | .start => false
  | .notCounting => false
  | .halt => false
  | .underflow => true
  | .saturation => true
  | .headFault => true
  | .sweepUnderflow => true

/-- The law of the section records (R60, R61, R63, R65, R70, R79). -/
structure SectionLaw (s : State) : Prop where
  /-- an image is in force in the running modes and in no other (R143) -/
  force : s.inForce.isSome = s.mode.running
  /-- an unused section holds what power-on gives it (R60) -/
  unused : ∀ k : SectNo, s.used k = false → s.sects[k] = Sect.reset
  /-- outside COUNTING every section is DISTURBED (R79) -/
  held : s.mode ≠ .counting → ∀ k : SectNo, s.sects[k].state = .disturbed
  count : ∀ k : SectNo, countFits s.sects[k].state s.sects[k].count
  cause : ∀ k : SectNo, s.sects[k].cause = .none ↔ s.sects[k].state ≠ .disturbed
  causeDP : ∀ k : SectNo, s.sects[k].causeDP.isSome = s.sects[k].cause.hasDP
  /-- the settle timer runs while the section is SETTLING with every bounding head FREE, and at no other moment (R65) -/
  settle : ∀ k : SectNo, s.sects[k].settle.isSome = (decide (s.sects[k].state = .settling) && s.viewFree k)
  elapsed : ∀ (k : SectNo) (e : Nat), s.sects[k].settle = some e → e ≤ s.settleTime k
  /-- CLEAR only with every bounding head FREE (R70) -/
  clear : ∀ k : SectNo, s.sects[k].state = .clear → s.viewFree k = true

/-! ### Pending records -/

/-- The law of the pending records (R105, R107). -/
def RecordLaw (s : State) : Prop :=
  ∀ (k : SectNo) (r : PendingRecord), s.records[k] = some r →
    s.mode = .counting ∧ s.inForce.isSome = true ∧ s.image.supervision k = .shared ∧
      (s.sects[k].state = .occupied ∨ s.sects[k].state = .disturbed) ∧ r.elapsed ≤ s.windowTicks

/-! ### Modes and endorsements -/

/-- The law of modes, endorsements and load indices (R142, R157). -/
structure ModeLaw (s : State) : Prop where
  force : s.inForce.isSome = s.mode.running
  counting : s.mode = .counting → s.endorsed0 = true ∧ s.endorsed1 = true
  await : s.mode = .awaitEndorse → (s.endorsed0 && s.endorsed1) = false
  endorsed : (s.endorsed0 || s.endorsed1) = true → s.inForce.isSome = true
  sub : s.sub = .none ↔ s.mode ≠ .loading
  mapIndex : s.mapIndex ≤ 32
  sectIndex : s.sectIndex ≤ 24

/-! ### The image -/

/-- What the BMAP holds for an image in force (R31 to R34). -/
def State.derivedFrom (s : State) (i : Image) : Prop :=
  s.bounding = tabulate i.boundingSet ∧ s.routing = tabulate i.routingSet ∧
    s.codes = tabulate fun d => some (entryCode d i.map[d])

/-- What the BMAP holds with no image in force (R34). -/
def State.derivedNone (s : State) : Prop :=
  s.bounding = Vector.replicate 24 [] ∧ s.routing = Vector.replicate 32 LinkSet.empty ∧ s.codes = Vector.replicate 32 none

/-- The law of the image: every value in range (R144, R145), an image in force and an image in the store legal (R30), the derived sets and the
signature those of the image in force (R34, R142, R143). -/
structure ImageLaw (s : State) : Prop where
  force : s.inForce.isSome = s.mode.running
  range : s.image.InRange
  stored : ∀ x : Stored, s.store = some x → x.image.InRange ∧ x.image.firstOffence = none
  signed : ∀ g : Signature, s.inForce = some g → g = s.image.signature ∧ s.image.firstOffence = none ∧ s.derivedFrom s.image
  unsigned : s.inForce = none → s.derivedNone

/-! ### Integrity -/

/-- SOFT_LIMIT lies in its range (R144). -/
def softRange (i : Image) : Prop := 1 ≤ i.globals.softLimit ∧ i.globals.softLimit ≤ 15

/-- The law of the Integrity Monitor (R126 to R129, R132, R135, R136, R141). -/
structure IntegrityLaw (s : State) : Prop where
  limit : softRange s.image
  stored : ∀ x : Stored, s.store = some x → softRange x.image
  /-- with no image in force the soft error count is 0 (R126, R141) -/
  held : s.mode.running = false → s.softErrors = 0
  below : s.mode = .awaitEndorse ∨ s.mode = .counting → s.softErrors < s.image.globals.softLimit
  halted : s.mode = .halted → s.softErrors ≤ s.image.globals.softLimit
  first : s.firstCause.isSome = decide (s.mode = .halted)
  subsequent : s.subCause.isSome = true → s.mode = .halted
  scrub : s.scrubTimer.isSome = (decide (s.mode = .counting) || decide (s.mode = .halted))
  elapsed : ∀ e : Nat, s.scrubTimer = some e → e ≤ s.scrubTicks
  pass : s.scrubPass = true → s.mode = .counting ∨ s.mode = .halted
  clock : s.clockTicks ≤ 1021

/-! ### Heads -/

/-- The class a head state falls into (R9). -/
def HeadState.cls : HeadState → HeadClass
  | .unknown => .notFree
  | .free => .free
  | .n1 => .notFree
  | .n2 => .notFree
  | .n3 => .notFree
  | .r2 => .notFree
  | .r3 => .notFree
  | .r4 => .notFree
  | .fault => .fault

/-- The qualified pair (CH1, CH2) that a head state goes with; none where any pair may stand (R9). -/
def HeadState.pair : HeadState → Option (Bool × Bool)
  | .unknown => none
  | .free => some (false, false)
  | .n1 => some (true, false)
  | .n2 => some (true, true)
  | .n3 => some (false, true)
  | .r2 => some (false, true)
  | .r3 => some (true, true)
  | .r4 => some (true, false)
  | .fault => none

/-- The states of a passage in progress (R10). -/
def HeadState.inPassage (x : HeadState) : Bool := x.follows && decide (x ≠ .free)

/-- The class the Counting Engine's view of a head will have when it has taken all that the head handed on (R62). -/
def classAfter (c : HeadClass) (xs : List HandedOn) : HeadClass :=
  xs.foldl (fun c x => match x with | .axle _ => c | .classChange c' => c') c

/-- The law of one head under QUAL, GLITCH_LIMIT and RECOVERY in steps (R3, R6, R9, R10, R14, R16, R19, R25). -/
structure Head.Lawful (running : Bool) (qual limit steps : Nat) (h : Head) : Prop where
  pair : ∀ p, h.state.pair = some p → (h.q1, h.q2) = p
  held : running = false → h.state = .unknown ∧ h.outbox = [] ∧ h.recovery = 0
  bucket : h.bucket ≤ limit ∧ (h.state.follows = true → h.bucket < limit) ∧ (h.state = .unknown → h.bucket = 0)
  passage : h.passageStart.isSome = h.state.inPassage
  lastAxle : h.state.follows = false → h.lastAxle = none
  candidates : h.cand1 ≤ qual ∧ h.cand2 ≤ qual
  recovery : h.recovery ≤ steps ∧ (h.state.follows = true → h.recovery = 0)
  /-- a recovery timer that has run for longer than any qualification has run with both channels qualified free (R19) -/
  quiet1 : (h.raw1 ≠ h.q1 → h.recovery ≤ h.cand1) ∧ (h.q1 = true → h.recovery ≤ 31)
  quiet2 : (h.raw2 ≠ h.q2 → h.recovery ≤ h.cand2) ∧ (h.q2 = true → h.recovery ≤ 31)

/-- The law of the heads and of the Counting Engine's view of them (R5, R9, R22, R25, R62). -/
structure HeadLaw (s : State) : Prop where
  globals : s.image.globals.clamp = s.image.globals
  stored : ∀ x : Stored, s.store = some x → x.image.globals.clamp = x.image.globals
  head : ∀ d : DP, s.heads[d].Lawful s.mode.running s.qual s.image.globals.glitchLimit s.recoverySteps
  view : ∀ d : DP, classAfter s.view[d] s.heads[d].outbox = s.heads[d].state.cls

/-! ### Links -/

/-- A rate a line can run at (R144, R159). -/
def isRate (n : Nat) : Prop := n = 19200 ∨ n = 38400 ∨ n = 57600 ∨ n = 115200

/-- The law of a line (R160, R161, R163, R166, R171). -/
structure Line.Lawful (x : Line) : Prop where
  held : ∀ bytes, x.rx = .receiving bytes → 1 ≤ bytes.length ∧ bytes.length ≤ 64
  /-- a telegram of 5 to 64 characters, each as R160 has it -/
  sent : ∀ chars, x.tx = .sending chars → 5 ≤ chars.length ∧ chars.length ≤ 64 ∧ ∀ c ∈ chars, goodCharacter c = true
  slot : ∀ r, x.slot = some r → r.data.length ≤ 12
  rates : isRate x.rxRate ∧ isRate x.txRate

/-- The law of an event ring (R177). -/
def Sup.RingLawful (x : Sup) : Prop := x.ring.length ≤ 64 ∧ (x.ring.map (·.seq)).Nodup

/-- The law of an attention line (R176). -/
def Sup.AttnLawful (x : Sup) : Prop :=
  match x.attnMode with
  | .level => x.attn = decide (x.notices &&& x.mask ≠ 0#10) ∧ x.pulse = none
  | .pulse => x.attn = x.pulse.isSome

/-- The law of the link controllers. -/
structure LinkLaw (s : State) : Prop where
  line : ∀ l : Link, (s.line l).Lawful
  service : s.lcs.line.rxRate = 57600 ∧ s.lcs.line.txRate = 57600
  ring : ∀ l : SupLink, (s.sup l).RingLawful
  attention : ∀ l : SupLink, (s.sup l).AttnLawful

end Sys2Proof.Machine
end

