-- ==== Sys2Proof/Certificates/Slice0/Obligations.lean ====
section
/-! DEFINITION. The statements for the provers, in the order of OBLIGATIONS.json. Where a statement rests on a choice of the model, its
docstring names the log entry. -/

open Sys2Proof Sys2Proof.Machine

/-! ### The block as a whole -/

/-- A step runs the command at the front of the queue with the queue's rest; on an empty queue the block idles (the idling is log 2). -/
def Obligations.StepRunsFrontCommand : Prop :=
  (∀ (s : State) (c : Instr) (rest : List Instr), s.pending = c :: rest → step s = exec c { s with pending := rest }) ∧
    ∀ s : State, s.pending = [] → step s = .next s

/-- Every command answers a next state (log 21), leaves the queue of waiting commands alone (log 2), and, but for POWER_ON and
SAMPLING_STEP, leaves the Timebase alone (R1). -/
def Obligations.CommandsComplete : Prop :=
  (∀ (c : Instr) (s : State), ∃ t, exec c s = .next t ∧ t.pending = s.pending) ∧
  (∀ (c : Instr) (s : State), c ≠ .powerOn → (∀ x, c ≠ .samplingStep x) →
     ∃ t, exec c s = .next t ∧ t.stepNo = s.stepNo ∧ t.stamp = s.stamp)

/-- The values that the spec gives at power-on (R1, R26, R34, R62, R80, R98, R105, R141, R142, R144, R168, R179). -/
def Obligations.ResetValues : Prop :=
  let s := State.reset
  (s.stepNo = 0 ∧ s.stamp = 0#16 ∧
    (∀ d : DP, s.heads[d].state = .unknown ∧ s.heads[d].q1 = false ∧ s.heads[d].q2 = false ∧ s.heads[d].cand1 = 0 ∧
      s.heads[d].cand2 = 0 ∧ s.heads[d].bucket = 0 ∧ s.heads[d].passageStart = none ∧ s.heads[d].lastAxle = none ∧
      s.heads[d].recovery = 0 ∧ s.heads[d].lastCause = .none) ∧
    (∀ k : SectNo, s.bounding[k] = []) ∧ (∀ d : DP, s.routing[d] = ⟨false, false⟩) ∧ (∀ d : DP, s.codes[d] = none)) ∧
  ((∀ k : SectNo, s.sects[k] = ⟨.disturbed, 0, .start, none, none, 0#8, 0#16⟩) ∧ (∀ d : DP, s.view[d] = .notFree) ∧
    s.periodCounter = 0#16 ∧ s.periodTimer = 0 ∧ (∀ k : SectNo, s.records[k] = none)) ∧
  (s.mode = .starting ∧ s.sub = .none ∧ s.mapIndex = 0 ∧ s.sectIndex = 0 ∧ s.offending = none ∧ s.endorsed0 = false ∧
    s.endorsed1 = false ∧ s.inForce = none ∧ s.image.globals = ⟨5, 5, 20, 0, 8, 3, 20, 2, 3, 10⟩ ∧
    s.image.params0 = ⟨0, 7⟩ ∧ s.image.params1 = ⟨0, 7⟩ ∧ (∀ k : SectNo, s.image.sects[k] = ⟨.unused, false, 0, 0⟩) ∧
    ∀ d : DP, s.image.map[d].terms = []) ∧
  (s.softErrors = 0 ∧ s.scrubTimer = none ∧ s.scrubPass = false ∧ s.clockTicks = 0 ∧ s.firstCause = none ∧
    s.subCause = none) ∧
  (∀ l : SupLink, (s.sup l).line = ⟨.idle, 19200, .idle, 19200, none, false, false⟩ ∧ (s.sup l).reportTimer = 0 ∧
    (s.sup l).statusDue = false ∧ (s.sup l).notices = 0#10 ∧ (s.sup l).mask = 0#10 ∧ (s.sup l).attnMode = .level ∧
    (s.sup l).attn = false ∧ (s.sup l).ring = [] ∧ (s.sup l).seq = 0#8 ∧ (s.sup l).gap = false) ∧
  s.lcs.line = ⟨.idle, 57600, .idle, 57600, none, false, false⟩

/-- POWER_ON: every field at its power-on value, but the store, the queue and the index of the next free value. The store is kept (R142), or, where power is
lost in VERIFYING under a legal image, holds the old image or the new one (R154; which one is the free choice of log 12). Among the values of State.reset are
the model's own: the key inactive (log 7), the raw levels and fault inputs (log 14), no request for a notice (log 9), no request handed on (log 34), and the
timers of log 28. -/
def Obligations.PowerOnResult : Prop :=
  ∀ s : State, ∃ t, exec .powerOn s = .next t ∧
    { t with store := none, free := 0, pending := [] } = State.reset ∧ t.pending = s.pending ∧
    ((s.mode = .verifying ∧ s.image.firstOffence = none) ∨ t.store = s.store) ∧
    (t.store = s.store ∨ t.store = some ⟨s.image, s.image.signature⟩)

/-- The laws hold right after power-on; the empty store is log 13 and the raw levels are log 14. -/
def Obligations.LawsHoldAtReset : Prop :=
  SectionLaw State.reset ∧ RecordLaw State.reset ∧ ModeLaw State.reset ∧ ImageLaw State.reset ∧ IntegrityLaw State.reset ∧
    HeadLaw State.reset ∧ LinkLaw State.reset

/-! ### Timebase -/

/-- SAMPLING_STEP numbers the step, reads every input group, and gives a tick at every tenth step and a drain moment at every hundredth tick (R1, R2). A drain
moment that no command has taken is taken by the step itself, before it samples (the model's choice, log 3; the field is log 28), so that after the step one
is due only where this step's tick gave it. -/
def Obligations.SamplingStepResult : Prop :=
  ∀ (s : State) (inputs : Vector Sample 32), ∃ t, exec (.samplingStep inputs) s = .next t ∧
    t.stepNo = s.stepNo + 1 ∧ t.stamp = (if (s.stepNo + 1) % 10 = 0 then s.stamp + 1#16 else s.stamp) ∧
    t.drainDue = decide ((s.stepNo + 1) % 1000 = 0) ∧
    ∀ d : DP, t.heads[d].raw1 = inputs[d].ch1 ∧ t.heads[d].raw2 = inputs[d].ch2 ∧ t.heads[d].faultIn = inputs[d].fault

/-- A step taken where nothing is due (log 3). At each head the candidate counts rise where the raw level differs from the qualified one (R3), and in a
running mode the recovery timer of a head in UNKNOWN or FAULT advances, at most to RECOVERY, while the recovery condition holds, and returns to 0 where it
fails (R19, R20, R25; the levels the condition reads are log 5). A tick is counted by each timer that runs, up to its limit (R65, R89, R107, R128, R132, R147,
R151, R154, R172; log 25; the drain moment and the operation timer as fields are log 28), and a step that gives no tick moves none of them; a pulse on an
attention line ages by one sampling step, up to ten (R176; counting it in steps is log 18); no section state, record, mode, notice or ring is touched. -/
def Obligations.SamplingWithNothingDue : Prop :=
  (∀ (s : State) (inputs : Vector Sample 32), s.takeDue = s → ∃ t, exec (.samplingStep inputs) s = .next t ∧
     ∀ d : DP,
       let h := s.heads[d]
       let x := inputs[d]
       t.heads[d] =
         { h with
           cand1 := if x.ch1 = h.q1 then h.cand1 else h.cand1 + 1
           cand2 := if x.ch2 = h.q2 then h.cand2 else h.cand2 + 1
           raw1 := x.ch1
           raw2 := x.ch2
           faultIn := x.fault
           recovery :=
             if s.mode.running = true ∧ (h.state = .unknown ∨ h.state = .fault) then
               if x.fault = false ∧ h.q1 = false ∧ h.q2 = false ∧ x.ch1 = h.raw1 ∧ x.ch2 = h.raw2 then
                 min (h.recovery + 1) (s.image.globals.recovery * 10000)
               else 0
             else h.recovery }) ∧
  (∀ (s : State) (inputs : Vector Sample 32), s.takeDue = s → ∃ t, exec (.samplingStep inputs) s = .next t ∧
     (if (s.stepNo + 1) % 10 = 0 then
       (∀ k : SectNo, t.sects[k] = { s.sects[k] with settle := s.sects[k].settle.map fun e => min (e + 1) (s.settleTime k) }) ∧
       (t.periodTimer = if s.inForce.isSome then min (s.periodTimer + 1) s.periodTicks else s.periodTimer) ∧
       (∀ k : SectNo, t.records[k] = s.records[k].map fun r => { r with elapsed := min (r.elapsed + 1) s.windowTicks }) ∧
       t.scrubTimer = s.scrubTimer.map (fun e => min (e + 1) s.scrubTicks) ∧ t.clockTicks = min (s.clockTicks + 1) 1021 ∧
       t.opTimer = min (s.opTimer + 1) s.opTicks ∧
       ∀ l : SupLink, (t.sup l).reportTimer = min ((s.sup l).reportTimer + 1) (s.reportPeriod l)
     else
       t.sects = s.sects ∧ t.periodTimer = s.periodTimer ∧ t.records = s.records ∧ t.scrubTimer = s.scrubTimer ∧
       t.clockTicks = s.clockTicks ∧ t.opTimer = s.opTimer ∧ t.drainDue = s.drainDue ∧
       ∀ l : SupLink, (t.sup l).reportTimer = (s.sup l).reportTimer) ∧
     (∀ l : SupLink, (t.sup l) = { s.sup l with
       reportTimer := (t.sup l).reportTimer, pulse := (s.sup l).pulse.map fun e => min (e + 1) 10 }) ∧
     t = { s with
       stepNo := t.stepNo, stamp := t.stamp, drainDue := t.drainDue, heads := t.heads, sects := t.sects,
       periodTimer := t.periodTimer, records := t.records, scrubTimer := t.scrubTimer, clockTicks := t.clockTicks,
       opTimer := t.opTimer, lc0 := t.lc0, lc1 := t.lc1 })

/-! ### Heads -/

/-- QUALIFIED_CHANGE on a head in FREE: a single change is a departure to N1 or R2 (R10), unless it falls within MIN_FREE of the last counted axle,
which sends the head to FAULT with cause TOO_FAST (R15). -/
def Obligations.DepartureResult : Prop :=
  ∀ (s : State) (d : DP),
    let h := s.heads[d]
    s.mode.running = true → h.state = .free → h.q1 = false → h.q2 = false → h.faultIn = false → h.glitches = 0 →
    let close := ∃ a, h.lastAxle = some a ∧ s.image.globals.minFree ≠ 0 ∧ s.stepNo - a < s.image.globals.minFree * 10
    (h.changed1 s.qual = true → h.changed2 s.qual = false →
      let g := { h with q1 := true, cand1 := 0 }
      (¬ close → exec (.qualifiedChange d) s = .next (s.setHead d
        { g with state := .n1, passageStart := some s.stepNo, outbox := h.outbox ++ [.classChange .notFree] })) ∧
      (close → exec (.qualifiedChange d) s = .next ((s.setHead d g).enterFault d .tooFast))) ∧
    (h.changed1 s.qual = false → h.changed2 s.qual = true →
      let g := { h with q2 := true, cand2 := 0 }
      (¬ close → exec (.qualifiedChange d) s = .next (s.setHead d
        { g with state := .r2, passageStart := some s.stepNo, outbox := h.outbox ++ [.classChange .notFree] })) ∧
      (close → exec (.qualifiedChange d) s = .next ((s.setHead d g).enterFault d .tooFast)))

/-- QUALIFIED_CHANGE in a passage: a single change moves the head by the tables of R11 and R12; from N1 or R2 to (0,0) it is a withdrawal, which
hands on the class change alone. -/
def Obligations.PassageMoves : Prop :=
  ∀ (s : State) (d : DP),
    let h := s.heads[d]
    let g := h.requalify s.qual
    s.mode.running = true → h.faultIn = false → h.glitches = 0 → (h.changed1 s.qual != h.changed2 s.qual) = true →
    (∀ m ∈ [(HeadState.n1, (true, true), HeadState.n2), (.n2, (false, true), .n3), (.n2, (true, false), .n1),
        (.n3, (true, true), .n2), (.r2, (true, true), .r3), (.r3, (true, false), .r4), (.r3, (false, true), .r2),
        (.r4, (true, true), .r3)],
      h.state = m.1 → (g.q1, g.q2) = m.2.1 → exec (.qualifiedChange d) s = .next (s.setHead d { g with state := m.2.2 })) ∧
    (h.state = .n1 ∨ h.state = .r2 → (g.q1, g.q2) = (false, false) →
      exec (.qualifiedChange d) s = .next (s.setHead d
        { g with state := .free, passageStart := none, outbox := h.outbox ++ [.classChange .free] }))

/-- QUALIFIED_CHANGE that returns a head to (0,0) from N3 or R4: a passage of MIN_PASSAGE steps or more counts an axle, whose event is handed on before the
class change (R14, R21, R22); a shorter one enters FAULT with cause TOO_FAST and hands on no axle event. The entry makes the last counted axle absent (R15,
R16), where R14 says that it is unchanged: the model's reading, log 26. -/
def Obligations.CountingReturnResult : Prop :=
  ∀ (s : State) (d : DP) (p : Nat),
    let h := s.heads[d]
    let g := h.requalify s.qual
    s.mode.running = true → h.faultIn = false → h.glitches = 0 → (h.changed1 s.qual != h.changed2 s.qual) = true →
    (g.q1, g.q2) = (false, false) → h.passageStart = some p →
    ∀ m ∈ [(HeadState.n3, Dir.n), (.r4, .r)], h.state = m.1 →
      (s.image.globals.minPassage ≤ s.stepNo - p → exec (.qualifiedChange d) s = .next (s.setHead d
        { g with
          state := .free
          lastAxle := some s.stepNo
          passageStart := none
          outbox := h.outbox ++ [.axle ⟨d, m.2, s.stamp⟩, .classChange .free] })) ∧
      (s.stepNo - p < s.image.globals.minPassage →
        exec (.qualifiedChange d) s = .next ((s.setHead d g).enterFault d .tooFast))

/-- QUALIFIED_CHANGE with more than one event at its step. Two changes at once are a TRANSITION fault (R13). A fault input seen active, or a glitch on the
other channel that fills the bucket, comes first, and the change then moves the qualified levels alone (R4, R8, R16; log 4). A glitch on the other channel
that does not fill the bucket raises it, and the change follows as without it (R3, R6). The mode that decides is the one in which the command takes the fault
input, not the one at the step that saw it (the model's choice, log 31). -/
def Obligations.ChangeWithOtherEvents : Prop :=
  ∀ (s : State) (d : DP),
    let h := s.heads[d]
    let limit := s.image.globals.glitchLimit
    s.mode.running = true → h.state.follows = true → (h.changed1 s.qual || h.changed2 s.qual) = true →
    (h.changed1 s.qual = true → h.changed2 s.qual = true → h.faultIn = false →
      exec (.qualifiedChange d) s = .next ((s.setHead d (h.requalify s.qual)).enterFault d .transition)) ∧
    (h.faultIn = true →
      let u := s.enterFault d .frontEnd
      exec (.qualifiedChange d) s = .next (u.setHead d (u.heads[d].clearGlitches.requalify s.qual))) ∧
    (h.faultIn = false → 0 < h.glitches → limit ≤ h.bucket + h.glitches →
      let u := (s.setHead d { h.clearGlitches with bucket := limit }).enterFault d .interference
      exec (.qualifiedChange d) s = .next (u.setHead d (u.heads[d].requalify s.qual))) ∧
    (h.faultIn = false → 0 < h.glitches → h.bucket + h.glitches < limit →
      exec (.qualifiedChange d) s =
        exec (.qualifiedChange d) (s.setHead d { h.clearGlitches with bucket := h.bucket + h.glitches }))

/-- QUALIFIED_CHANGE moves a qualified level to the raw level that differs from it when its candidate count has reached QUAL (R3); in UNKNOWN, in FAULT and in
the held modes that is all it does (R4, R17, R20, R25), but where the fault input is seen active in a running mode: the input acts first, sending UNKNOWN to
FAULT and taking the cause in FAULT, a glitch on the other channel is cleared, and the level then moves (R16, R18; the order is log 4; the mode is the one at
the taking, not at the step that saw the input, the model's choice, log 31). With no such channel the command changes nothing (log 1). -/
def Obligations.ChangeOfLevelsAlone : Prop :=
  ∀ (s : State) (d : DP),
    let h := s.heads[d]
    let c1 := h.raw1 ≠ h.q1 ∧ s.qual ≤ h.cand1
    let c2 := h.raw2 ≠ h.q2 ∧ s.qual ≤ h.cand2
    (c1 ∨ c2 → s.mode.running = false ∨ (h.faultIn = false ∧ (h.state = .unknown ∨ h.state = .fault)) →
      ∃ t, exec (.qualifiedChange d) s = .next t ∧ t = s.setHead d t.heads[d] ∧
        t.heads[d] = { h with
          q1 := t.heads[d].q1, q2 := t.heads[d].q2, cand1 := t.heads[d].cand1, cand2 := t.heads[d].cand2 } ∧
        (c1 → t.heads[d].q1 = h.raw1 ∧ t.heads[d].cand1 = 0) ∧ (¬ c1 → t.heads[d].q1 = h.q1) ∧
        (c2 → t.heads[d].q2 = h.raw2 ∧ t.heads[d].cand2 = 0) ∧ (¬ c2 → t.heads[d].q2 = h.q2) ∧
        (h.raw1 ≠ h.q1 ∧ ¬ c1 → t.heads[d].cand1 = h.cand1) ∧ (h.raw2 ≠ h.q2 ∧ ¬ c2 → t.heads[d].cand2 = h.cand2)) ∧
    (c1 ∨ c2 → s.mode.running = true → h.faultIn = true →
      (h.state = .unknown →
        let u := s.enterFault d .frontEnd
        exec (.qualifiedChange d) s = .next (u.setHead d (u.heads[d].clearGlitches.requalify s.qual))) ∧
      (h.state = .fault →
        exec (.qualifiedChange d) s = .next (s.setHead d
          (Head.requalify s.qual (Head.clearGlitches { h with lastCause := .frontEnd, recovery := 0 }))))) ∧
    (¬ c1 → ¬ c2 → exec (.qualifiedChange d) s = .next s)

/-- GLITCH: the reverted candidate counts return to 0 (R3); in the states that follow the pair each glitch adds 1 to the bucket, up to GLITCH_LIMIT, where the
head enters FAULT with cause INTERFERENCE (R6, R8); elsewhere nothing else happens (R6, R17, R25). Where the fault input is seen active in a running mode it
acts first, whatever the state: the head is then in FAULT with cause FRONT_END, its bucket frozen, and the candidate counts alone return to 0 (R16, R18; the
order is log 4; the mode is the one at the taking, not at the step that saw the input, the model's choice, log 31). Without a reverted channel the command
changes nothing (log 1). -/
def Obligations.GlitchResult : Prop :=
  ∀ (s : State) (d : DP),
    let h := s.heads[d]
    let g1 := h.raw1 = h.q1 ∧ 0 < h.cand1
    let g2 := h.raw2 = h.q2 ∧ 0 < h.cand2
    let n := (if g1 then 1 else 0) + if g2 then 1 else 0
    let g := { h with cand1 := if g1 then 0 else h.cand1, cand2 := if g2 then 0 else h.cand2 }
    let limit := s.image.globals.glitchLimit
    (n = 0 → exec (.glitch d) s = .next s) ∧
    (0 < n → s.mode.running = true → h.faultIn = false → h.state.follows = true →
      (h.bucket + n < limit → exec (.glitch d) s = .next (s.setHead d { g with bucket := h.bucket + n })) ∧
      (limit ≤ h.bucket + n →
        exec (.glitch d) s = .next ((s.setHead d { g with bucket := limit }).enterFault d .interference))) ∧
    (0 < n → s.mode.running = false ∨ (h.faultIn = false ∧ h.state.follows = false) →
      exec (.glitch d) s = .next (s.setHead d g)) ∧
    (0 < n → s.mode.running = true → h.faultIn = true →
      (h.state ≠ .fault →
        let u := s.enterFault d .frontEnd
        exec (.glitch d) s = .next (u.setHead d { u.heads[d] with cand1 := g.cand1, cand2 := g.cand2 })) ∧
      (h.state = .fault →
        exec (.glitch d) s = .next (s.setHead d { g with lastCause := .frontEnd, recovery := 0 })))

/-- BUCKET_DRAIN at a drain moment takes 1 from every bucket above 0 of a head that follows its pair (R7); at no other moment does it do
anything (log 1). -/
def Obligations.BucketDrainResult : Prop :=
  ∀ s : State,
    (s.drainDue = false → exec .bucketDrain s = .next s) ∧
    (s.drainDue = true → ∃ t, exec .bucketDrain s = .next t ∧ t = { s with drainDue := false, heads := t.heads } ∧
      ∀ d : DP, t.heads[d] =
        { s.heads[d] with bucket := if s.heads[d].state.follows = true then s.heads[d].bucket - 1 else s.heads[d].bucket })

/-- FRONT_END_FAULT with the fault input seen active: from any state but FAULT the head enters FAULT with cause FRONT_END, all that R16 says of the entry, and
HEAD_FAULT is asked for on its routing set (R16, R18, R23); in FAULT it takes the cause and its recovery timer returns to 0. In the held modes, and with the
input inactive (log 1), nothing changes. The mode that decides is the one in which the command takes the input, so that an input seen at a step of a held mode
acts once the mode is a running one (the model's choice, log 31). What an entry into FAULT does is the same for each of the causes INTERFERENCE, TRANSITION,
TOO_FAST and FRONT_END: the last fault cause takes that cause, and the rest is as R16 says. -/
def Obligations.FrontEndFaultResult : Prop :=
  (∀ (s : State) (d : DP) (c : FaultCause),
    let h := s.heads[d]
    s.enterFault d c = (s.setHead d
      { h with
        state := .fault
        lastCause := c
        passageStart := none
        lastAxle := none
        recovery := 0
        outbox := h.outbox ++ [.classChange .fault] }).askEach .headFault s.routing[d].has) ∧
  ∀ (s : State) (d : DP),
    let h := s.heads[d]
    (s.mode.running = true → h.faultIn = true → h.state ≠ .fault →
      exec (.frontEndFault d) s = .next ((s.setHead d
        { h with
          state := .fault
          lastCause := .frontEnd
          passageStart := none
          lastAxle := none
          recovery := 0
          outbox := h.outbox ++ [.classChange .fault] }).askEach .headFault s.routing[d].has)) ∧
    (s.mode.running = true → h.faultIn = true → h.state = .fault →
      exec (.frontEndFault d) s = .next (s.setHead d { h with lastCause := .frontEnd, recovery := 0 })) ∧
    (s.mode.running = false ∨ h.faultIn = false → exec (.frontEndFault d) s = .next s)

/-- HEAD_RECOVERY and UNKNOWN_RECOVERY: a head in FAULT, or in UNKNOWN, whose recovery timer has reached RECOVERY seconds moves to FREE with bucket 0
and timer 0, keeps its last fault cause and hands on the class change (R19, R20, R22); at no other moment does either do anything (log 1). -/
def Obligations.RecoveryResult : Prop :=
  ∀ (s : State) (d : DP), ∀ m ∈ [(Instr.headRecovery d, HeadState.fault), (.unknownRecovery d, .unknown)],
    let h := s.heads[d]
    let due := s.mode.running = true ∧ h.state = m.2 ∧ s.image.globals.recovery * 10000 ≤ h.recovery
    (due → exec m.1 s = .next (s.setHead d
      { h with state := .free, bucket := 0, recovery := 0, outbox := h.outbox ++ [.classChange .free] })) ∧
    (¬ due → exec m.1 s = .next s)

/-! ### Counts, sections and histories -/

/-- What counting a section in or out makes of its record (R47 to R52), by the table of chapter 3: the state, whose codes are 0 to 5, and the count; the cause
and cause DP of a section that becomes DISTURBED by it, and of no other; and the settle timer, which starts at once only where every bounding head is FREE
(R65, R67). -/
def Obligations.CountingTable : Prop :=
  (SectState.clear.code = 0 ∧ SectState.occupied.code = 1 ∧ SectState.settling.code = 2 ∧ SectState.disturbed.code = 3 ∧
    SectState.restoring.code = 4 ∧ SectState.sweeping.code = 5) ∧
  ∀ (d : DP) (inward free : Bool) (x : Sect), countFits x.state x.count →
    let y := if inward = true then x.countIn d else x.countOut d free
    let w := countTable x.state x.count inward
    y.state = w.1 ∧ y.count = w.2.1 ∧ countFits y.state y.count ∧
    (∀ c, w.2.2 = some c → y.cause = c ∧ y.causeDP = some d ∧ y.settle = none) ∧
    (w.2.2 = none → y.cause = x.cause ∧ y.causeDP = x.causeDP) ∧
    (x.state ≠ .settling → y.state = .settling → y.settle = if free = true then some 0 else none) ∧
    ((x.state ≠ .settling → x.settle = none) → y.state ≠ .settling → y.settle = none) ∧
    y.flags = x.flags ∧ y.histStamp = x.histStamp

/-- AXLE_EVENT in COUNTING, first read passing (R36, R37, R43, R44, R53, R54, R56, R115, R116): every section that a term of the entry names is counted in or
out and its history updated, no other section is touched; the records of the named sections are gone; CONCUR_LAPSED, CHANGE and SELECTED are asked for term by
term, in that order; the rings of the routing set, and no other, are offered the event, with the ring notices set at once (log 8); nothing else
changes. -/
def Obligations.AppliedAxleResult : Prop :=
  ∀ (s : State) (d : DP) (e : AxleEvent) (rest : List HandedOn) (read2 : MapRead),
    let ts := s.image.map[e.dp].terms
    let after := fun (x : Term) =>
      if inwardBy x.sense e.dir = true then s.sects[x.sect].countIn e.dp else s.sects[x.sect].countOut e.dp (s.viewFree x.sect)
    s.mode = .counting → s.heads[d].outbox = .axle e :: rest →
    s.codes[e.dp] = some (entryCode e.dp s.image.map[e.dp]) → (ts.map (·.sect)).Nodup → (∀ x ∈ ts, s.used x.sect = true) →
    ∃ t, exec (.axleEvent d .intact read2) s = .next t ∧
      (∀ x ∈ ts, t.sects[x.sect] = (after x).touchHistory s.periodCounter) ∧
      (∀ k : SectNo, k ∉ ts.map (·.sect) → t.sects[k] = s.sects[k]) ∧
      (∀ k : SectNo, t.records[k] = if k ∈ ts.map (·.sect) then none else s.records[k]) ∧
      (∀ l : SupLink,
        let x := if s.routing[e.dp].has l = true then (s.sup l).offer e else s.sup l
        t.sup l = { x with
          asked := (s.sup l).asked ++ ts.flatMap fun y =>
            s.lapses y.sect l ++
            (if (after y).state ≠ s.sects[y.sect].state ∧ s.supervises l y.sect = true then [.change] else []) ++
            (if y.notify = true ∧ s.supervises l y.sect = true then [.selected] else []) }) ∧
      t = { s.setHead d { s.heads[d] with outbox := rest } with
        sects := t.sects, records := t.records, lc0 := t.lc0, lc1 := t.lc1 }

/-- AXLE_EVENT whose first read does not pass or is not made. Outside COUNTING the event is taken and leaves no trace (R42); where the head's oldest record is
no axle event there is none to take (R62; log 1). In COUNTING with a first read that fails (its check code is not that of its fields), a second read that
passes gives the effects it would have had as the first, and the soft error count rises by 1, the evaluator halting at SOFT_LIMIT; with both failing the event
is discarded and the evaluator halts with MAP_HARD (R36, R38, R39, R43, R126, R127, R134, R135). -/
def Obligations.UnappliedAxleResult : Prop :=
  (∀ (s : State) (d : DP) (read1 read2 : MapRead),
     (∀ e rest, s.heads[d].outbox = .axle e :: rest → s.mode ≠ .counting →
       exec (.axleEvent d read1 read2) s = .next (s.setHead d { s.heads[d] with outbox := rest })) ∧
     ((∀ e rest, s.heads[d].outbox ≠ .axle e :: rest) → exec (.axleEvent d read1 read2) s = .next s)) ∧
  (∀ (s : State) (d : DP) (e : AxleEvent) (rest : List HandedOn) (entry1 : MapEntry) (code1 : Byte) (read2 : MapRead),
     s.mode = .counting → s.heads[d].outbox = .axle e :: rest → code1 ≠ entryCode e.dp entry1 →
     (s.readPasses e.dp read2 = true → ∃ t, exec (.axleEvent d read2 read2) s = .next t ∧ t.softErrors = s.softErrors ∧
       (s.softErrors + 1 < s.image.globals.softLimit →
         exec (.axleEvent d (.altered entry1 code1) read2) s = .next { t with softErrors := s.softErrors + 1 }) ∧
       (s.image.globals.softLimit ≤ s.softErrors + 1 →
         exec (.axleEvent d (.altered entry1 code1) read2) s =
           .next ({ t with softErrors := s.softErrors + 1 }.enterHalted .softLimit))) ∧
     (∀ (entry2 : MapEntry) (code2 : Byte), code2 ≠ entryCode e.dp entry2 →
       exec (.axleEvent d (.altered entry1 code1) (.altered entry2 code2)) s =
         .next ((s.setHead d { s.heads[d] with outbox := rest }).enterHalted .mapHard)))

/-- The history update and the history view, slot by slot (R91 to R93): the view moves the stored flags as many slots older as periods have passed since
the stamp, modulo 65536 and at most 8; the update stores that view with slot 0 set, stamps it, and touches no other field. -/
def Obligations.HistorySlots : Prop :=
  ∀ (counter : BitVec 16) (x : Sect) (j : Nat), j < 8 →
    let e := (counter.toNat + 65536 - x.histStamp.toNat) % 65536
    let k := if e < 8 then e else 8
    ((x.historyView counter).getLsbD j = true ↔ k ≤ j ∧ x.flags.getLsbD (j - k) = true) ∧
    ((x.touchHistory counter).flags.getLsbD j = true ↔ j = 0 ∨ (k ≤ j ∧ x.flags.getLsbD (j - k) = true)) ∧
    x.touchHistory counter = { x with flags := (x.touchHistory counter).flags, histStamp := counter }

/-- HEAD_CLASS_CHANGE (R62, R70 to R75, R85, R86, R116). The class goes into the view. Not free takes each CLEAR section that the head bounds to SETTLING with
its timer stopped and stops the timer of a SETTLING one; FREE starts the stopped timer of a SETTLING section whose bounding heads are now all FREE; FAULT
disturbs each used section that the head bounds, with cause HEAD_FAULT and that head as cause DP, and leaves a DISTURBED one as it is. Every change of a state
code is reported. Where the head's oldest record is no class change there is none to take (log 1). -/
def Obligations.HeadClassChangeResult : Prop :=
  ∀ (s : State) (d : DP),
    ((∀ c rest, s.heads[d].outbox ≠ .classChange c :: rest) → exec (.headClassChange d) s = .next s) ∧
    ∀ (c : HeadClass) (rest : List HandedOn), s.heads[d].outbox = .classChange c :: rest →
      let u : State := { s.setHead d { s.heads[d] with outbox := rest } with view := s.view.set d c }
      exec (.headClassChange d) s = .next (u.reported fun k =>
        let x := s.sects[k]
        match c with
        | .notFree =>
          if d ∈ s.bounding[k] ∧ x.state = .clear then { x with state := .settling, settle := none }
          else if d ∈ s.bounding[k] ∧ x.state = .settling then { x with settle := none }
          else x
        | .free =>
          if d ∈ s.bounding[k] ∧ x.state = .settling ∧ x.settle = none ∧ u.viewFree k = true then { x with settle := some 0 }
          else x
        | .fault =>
          if d ∈ s.bounding[k] ∧ s.used k = true ∧ x.state ≠ .disturbed then
            { x with state := .disturbed, cause := .headFault, causeDP := some d, settle := none }
          else x)

/-- SETTLE_EXPIRY (R66): a settle timer that runs and has counted the settle time takes its section to CLEAR with count 0, code 2 to code 0, and the change of
state code is reported (R85); a timer that does not run yields no expiry. -/
def Obligations.SettleExpiryResult : Prop :=
  (SectState.settling.code = 2 ∧ SectState.clear.code = 0) ∧
  ∀ (s : State) (k : SectNo),
    (∀ e, s.sects[k].settle = some e → (s.image.globals.settleBase + s.image.sects[k].settleExt) * 100 ≤ e →
      exec (.settleExpiry k) s = .next (s.reported fun j =>
        if j = k then { s.sects[k] with state := .clear, count := 0, settle := none } else s.sects[j])) ∧
    (s.sects[k].settle = none → exec (.settleExpiry k) s = .next s)

/-- Before a settle timer has counted the settle time, and before a window timer has counted CONCUR_WINDOW seconds or with no record, the command for the expiry
changes nothing (the model's choice, log 1). -/
def Obligations.ExpiriesNotYetDue : Prop :=
  ∀ (s : State) (k : SectNo),
    (∀ e, s.sects[k].settle = some e → e < (s.image.globals.settleBase + s.image.sects[k].settleExt) * 100 →
      exec (.settleExpiry k) s = .next s) ∧
    (∀ r, s.records[k] = some r → r.elapsed < s.image.globals.concurWindow * 1000 → exec (.concurWindowExpiry k) s = .next s) ∧
    (s.records[k] = none → exec (.concurWindowExpiry k) s = .next s)

/-- HISTORY_PERIOD_EXPIRY: while an image is in force, a period timer that has counted 2^HIST_EXP seconds restarts from 0 and the period counter advances,
from 65535 to 0, and no section record is touched (R89, R90). REPORT_TIMER_EXPIRY: a report timer that has counted its effective period restarts from 0 and
the status-due flag is set (R172). Before that moment neither command does anything (log 1). The effective report period is 2^REPORT_EXP ms where that covers
the link's longest STATUS telegram and its gap at the link's rate, and otherwise the smallest power of two of milliseconds that covers them; 128 ms with no
image in force. -/
def Obligations.ReportAndHistoryPeriods : Prop :=
  ((∀ s : State,
     let due := s.inForce.isSome = true ∧ 2 ^ s.image.globals.histExp * 1000 ≤ s.periodTimer
     (due → exec .historyPeriodExpiry s =
       .next { s with periodTimer := 0, periodCounter := BitVec.ofNat 16 (s.periodCounter.toNat + 1) }) ∧
     (¬ due → exec .historyPeriodExpiry s = .next s)) ∧
   ∀ (s : State) (l : SupLink),
     (s.reportPeriod l ≤ (s.sup l).reportTimer →
       exec (.reportTimerExpiry l) s = .next (s.setSup l { s.sup l with reportTimer := 0, statusDue := true })) ∧
     ((s.sup l).reportTimer < s.reportPeriod l → exec (.reportTimerExpiry l) s = .next s)) ∧
  (∀ (s : State) (l : SupLink),
     let m := (s.supervised l).length
     let bits := (9 + 2 * m) * 11 + 22
     let rate := if s.inForce.isSome = true then rateOf (s.image.params l).lineRate else 19200
     let wanted := if s.inForce.isSome = true then 2 ^ (s.image.params l).reportExp else 128
     bits * 1000 ≤ s.reportPeriod l * rate ∧
     (bits * 1000 ≤ wanted * rate → s.reportPeriod l = wanted) ∧
     (wanted * rate < bits * 1000 → ∃ n, s.reportPeriod l = 2 ^ n ∧ ∀ p, bits * 1000 ≤ 2 ^ p * rate → n ≤ p) ∧
     (s.inForce = none → s.reportPeriod l = 128))

/-! ### Resets -/

/-- RESET_PREP and RESET_DIRECT that a check of R101 turns away on a section with no record: the first failing check, in the table's order, gives the
result, and the answer is all that changes (R101, R102, R103). -/
def Obligations.ResetRefusals : Prop :=
  ∀ (s : State) (kind : ResetKind) (l : SupLink) (n : Nat), s.readySup l (resetRequest kind n) →
    let refused := fun r => exec (resetCommand kind l n) s = .next (answeredReset kind l (s.unhandSup l) r)
    (s.mode ≠ .counting → refused .refusedMode) ∧
    (s.mode = .counting →
      ((∀ k : SectNo, k.val = n → s.used k = false) → refused .refusedRange) ∧
      ∀ k : SectNo, k.val = n → s.used k = true →
        (s.supervises l k = false → refused .refusedNotSupervisor) ∧
        (s.supervises l k = true →
          (s.sects[k].state ≠ .occupied → s.sects[k].state ≠ .disturbed → refused .refusedState) ∧
          (s.sects[k].state = .occupied ∨ s.sects[k].state = .disturbed → s.records[k] = none →
            ∀ r, validation s kind k = some r → refused r)))

/-- RESET_PREP and RESET_DIRECT with every check passed and no record. On a section that one link supervises the reset is performed within the request, CHANGE
is asked for, and the answer is ACCEPTED; no record is opened (R81 to R83, R104). On a SHARED section a record is opened, the answer is PENDING, CONCUR_OPEN
is asked for on the other link, and the section is not touched (R109). -/
def Obligations.FirstResetRequestResult : Prop :=
  (∀ (s : State) (kind : ResetKind) (l : SupLink) (k : SectNo), s.readySup l (resetRequest kind k.val) →
     s.mode = .counting → s.used k = true → s.supervises l k = true → s.image.supervision k ≠ .shared →
     s.sects[k].state = .occupied ∨ s.sects[k].state = .disturbed → s.records[k] = none → validation s kind k = none →
     exec (resetCommand kind l k.val) s = .next (answeredReset kind l
       (((s.unhandSup l).setSect k (s.sects[k].afterReset kind (s.viewFree k))).ask .change l) .accepted)) ∧
  (∀ (s : State) (kind : ResetKind) (l : SupLink) (k : SectNo), s.readySup l (resetRequest kind k.val) →
     s.mode = .counting → s.used k = true → s.image.supervision k = .shared →
     s.sects[k].state = .occupied ∨ s.sects[k].state = .disturbed → s.records[k] = none → validation s kind k = none →
     exec (resetCommand kind l k.val) s = .next (answeredReset kind l
       (((s.unhandSup l).setRecord k (some ⟨kind, l, 0⟩)).ask .concurOpen l.other) .pending))

/-- RESET_PREP and RESET_DIRECT that meet a record: from the opener they are refused and leave it (R110); from the other link and of the other kind they
remove it (R112); from the other link and of its kind they run the validation again and complete the reset or remove the record (R111). -/
def Obligations.SecondRequestResult : Prop :=
  ∀ (s : State) (kind : ResetKind) (l : SupLink) (k : SectNo) (r : PendingRecord), s.readySup l (resetRequest kind k.val) →
    s.mode = .counting → s.used k = true → s.image.supervision k = .shared →
    s.sects[k].state = .occupied ∨ s.sects[k].state = .disturbed → s.records[k] = some r →
    let answered := fun t x => exec (resetCommand kind l k.val) s = .next (answeredReset kind l t x)
    let lapsed := ((s.unhandSup l).setRecord k none).ask .concurLapsed r.opener
    (r.opener = l → answered (s.unhandSup l) .refusedDuplicate) ∧
    (r.opener ≠ l → r.kind ≠ kind → answered lapsed .refusedKindMismatch) ∧
    (r.opener ≠ l → r.kind = kind → ∀ x, validation s kind k = some x → answered lapsed x) ∧
    (r.opener ≠ l → r.kind = kind → validation s kind k = none →
      answered (((((s.unhandSup l).setSect k (s.sects[k].afterReset kind (s.viewFree k))).ask .change .sl0).ask .change .sl1).setRecord
        k none) .accepted)

/-- RESET_CANCEL: checks 1 to 3 of R101; the opener's record is removed with no CONCUR_LAPSED, and with no record of this link's the request is refused
and leaves the record (R113). -/
def Obligations.CancelResult : Prop :=
  ∀ (s : State) (l : SupLink) (n : Nat), s.readySup l (.resetCancel n) →
    let answered := fun t r => exec (.resetCancel l n) s = .next (State.respond t (.sup l) 0x13#8 ⟨r, []⟩)
    (s.mode ≠ .counting → answered (s.unhandSup l) .refusedMode) ∧
    (s.mode = .counting →
      ((∀ k : SectNo, k.val = n → s.used k = false) → answered (s.unhandSup l) .refusedRange) ∧
      ∀ k : SectNo, k.val = n → s.used k = true →
        (s.supervises l k = false → answered (s.unhandSup l) .refusedNotSupervisor) ∧
        (s.supervises l k = true →
          (∀ r, s.records[k] = some r → r.opener = l → answered ((s.unhandSup l).setRecord k none) .accepted) ∧
          ((∀ r, s.records[k] = some r → r.opener ≠ l) → answered (s.unhandSup l) .refusedNoRecord)))

/-- CONCUR_WINDOW_EXPIRY (R114): a record whose window timer has counted CONCUR_WINDOW seconds (R107) is removed, and CONCUR_LAPSED is asked for on its
opener; the section records are not touched, and a later request finds no record. -/
def Obligations.WindowExpiryResult : Prop :=
  ∀ (s : State) (k : SectNo) (r : PendingRecord), s.records[k] = some r → s.image.globals.concurWindow * 1000 ≤ r.elapsed →
    ∃ t, exec (.concurWindowExpiry k) s = .next t ∧ t = (s.setRecord k none).ask .concurLapsed r.opener ∧
      t.records[k] = none ∧ t.sects = s.sects

/-- SECTION_DETAIL: on a used section the ten bytes of R171, in any mode with an image in force and from either link; on any other section REFUSED_RANGE;
nothing but the slot changes (R88, R93, R108). -/
def Obligations.SectionDetailResult : Prop :=
  ∀ (s : State) (l : SupLink) (n : Nat), s.readySup l (.sectionDetail n) →
    let answered := fun a => exec (.sectionDetail l n) s = .next ((s.unhandSup l).respond (.sup l) 0x14#8 a)
    ((∀ k : SectNo, k.val = n → s.used k = false) → answered ⟨.refusedRange, []⟩) ∧
    ∀ k : SectNo, k.val = n → s.used k = true →
      let x := s.sects[k]
      ∃ pending : Byte × Byte × Byte,
        answered ⟨.accepted, [byte n, byte x.state.code, byte (x.count / 256), byte x.count, byte x.cause.code,
          (match x.causeDP with | some d => byte d.val | none => 255#8), x.historyView s.periodCounter,
          pending.1, pending.2.1, pending.2.2]⟩ ∧
        (s.records[k] = none → pending = (0#8, 0#8, 0#8)) ∧
        ∀ r, s.records[k] = some r →
          pending.1 = (match r.kind with | .prep => 1#8 | .direct => 2#8) ∧
          pending.2.1 = (match r.opener with | .sl0 => 1#8 | .sl1 => 2#8) ∧
          (s.image.globals.concurWindow ≤ 60 → r.elapsed < s.image.globals.concurWindow * 1000 →
            pending.2.2.toNat * 1000 < s.image.globals.concurWindow * 1000 - r.elapsed + 1000 ∧
            s.image.globals.concurWindow * 1000 - r.elapsed ≤ pending.2.2.toNat * 1000)

/-! ### Integrity -/

/-- SCRUB_START and SCRUB_COMPLETE (R128 to R130). A scrub timer that has counted SCRUB_PERIOD seconds starts a pass and restarts. A pass that completes in
COUNTING with the signature clears the soft error count, and in HALTED changes nothing else; one that differs halts the evaluator in COUNTING and is offered
to the subsequent slot in HALTED. With no timer due, or no pass in flight, nothing happens (log 1). What a pass reads is its operand (log 11).
CLOCK_WINDOW_END (R132 to R134): a window that ends with 1021 ticks or fewer than 980 deviates, and the next starts from 0; a deviation halts the evaluator in
COUNTING, is offered to the subsequent slot in HALTED and is discarded in every other mode; a window that does not deviate changes nothing. -/
def Obligations.ScrubAndClockResults : Prop :=
  ((∀ s : State,
     (∀ e, s.scrubTimer = some e → s.image.globals.scrubPeriod * 1000 ≤ e →
       exec .scrubStart s = .next { s with scrubTimer := some 0, scrubPass := true }) ∧
     ((∀ e, s.scrubTimer = some e → e < s.image.globals.scrubPeriod * 1000) → exec .scrubStart s = .next s)) ∧
   ∀ (s : State) (read : ScrubRead),
     let same := s.inForce = some (match read with | .intact => s.image.signature | .altered canon => signatureOf canon)
     let done : State := { s with scrubPass := false }
     (s.scrubPass = false → exec (.scrubComplete read) s = .next s) ∧
     (s.scrubPass = true →
       (s.mode = .counting → same → exec (.scrubComplete read) s = .next { done with softErrors := 0 }) ∧
       (s.mode = .halted → same → exec (.scrubComplete read) s = .next done) ∧
       (s.mode = .counting → ¬ same → exec (.scrubComplete read) s = .next (done.enterHalted .scrubMismatch)) ∧
       (s.mode = .halted → ¬ same → exec (.scrubComplete read) s =
         .next { done with subCause := offerCause .scrubMismatch s.subCause }))) ∧
  (∀ s : State,
     let ended : State := { s with clockTicks := 0 }
     (980 ≤ s.clockTicks → s.clockTicks ≤ 1020 → exec .clockWindowEnd s = .next ended) ∧
     (s.clockTicks < 980 ∨ 1021 ≤ s.clockTicks →
       (s.mode = .counting → exec .clockWindowEnd s = .next (ended.enterHalted .clockDeviation)) ∧
       (s.mode = .halted →
         exec .clockWindowEnd s = .next { ended with subCause := offerCause .clockDeviation s.subCause }) ∧
       (s.mode ≠ .counting → s.mode ≠ .halted → exec .clockWindowEnd s = .next ended)))

/-- Entry into HALTED, within the event that raised the first cause (R77, R86, R117, R135, R138): each used section not DISTURBED becomes so with cause HALT
and its count kept; every record is gone, with CONCUR_LAPSED asked for on its opener; HALT is set on both links, and CHANGE on each link that supervises a
section that changed, both at once (set within the event and not asked for: the model's reading of R138, log 8); the image, the endorsements and everything
else stand. A cause raised in HALTED is offered to the subsequent slot, which takes it when it holds NONE or a cause of lower rank, that is of a higher code,
and nothing else changes (R136). -/
def Obligations.HaltEntryEffects : Prop :=
  (∀ (s : State) (c : HaltCause),
     let t := s.enterHalted c
     t.mode = .halted ∧ t.firstCause = some c ∧
     (∀ k : SectNo, t.sects[k] =
       if s.used k = true ∧ s.sects[k].state ≠ .disturbed then
         { s.sects[k] with state := .disturbed, cause := .halt, causeDP := none, settle := none }
       else s.sects[k]) ∧
     (∀ k : SectNo, t.records[k] = none) ∧
     (∀ l : SupLink,
       let x := { s.sup l with asked := (s.sup l).asked ++ (List.finRange 24).flatMap fun k => s.lapses k l }
       t.sup l =
         if ∃ k : SectNo, s.supervises l k = true ∧ s.sects[k].state ≠ .disturbed then (x.setNotice .halt).setNotice .change
         else x.setNotice .halt) ∧
     t = { s with mode := .halted, firstCause := some c, sects := t.sects, records := t.records, lc0 := t.lc0, lc1 := t.lc1 }) ∧
  (∀ (s : State) (c : HaltCause), s.mode = .halted → s.raiseHalt c = { s with subCause := offerCause c s.subCause }) ∧
  (∀ c : HaltCause, offerCause c none = some c ∧
     ∀ held : HaltCause, (c.code < held.code → offerCause c (some held) = some c) ∧
       (held.code ≤ c.code → offerCause c (some held) = some held))

/-! ### The service link: reading -/

/-- HEAD_READ, HALT_READ and LOAD_STATUS are answered in every mode and whatever SVKEY is, and change nothing but the slot (R24, R140, R148, R155, R171). -/
def Obligations.ServiceReadResults : Prop :=
  ∀ s : State,
    (∀ n : Nat, s.readySvc (.headRead n) →
      (∀ d : DP, d.val = n → exec (.headRead n) s = .next (s.unhandSvc.respond .svl 0x29#8
        ⟨.accepted, [byte s.heads[d].state.code, byte s.heads[d].lastCause.code, byte s.heads[d].bucket,
          (if s.heads[d].q2 = true then 2#8 else 0#8) + if s.heads[d].q1 = true then 1#8 else 0#8]⟩)) ∧
      (31 < n → exec (.headRead n) s = .next (s.unhandSvc.respond .svl 0x29#8 ⟨.refusedRange, []⟩))) ∧
    (s.readySvc .haltRead → exec .haltRead s = .next (s.unhandSvc.respond .svl 0x2A#8
      ⟨.accepted, [byte (haltCode s.firstCause), byte (haltCode s.subCause), byte s.softErrors]⟩)) ∧
    (s.readySvc .loadStatus → ∃ item : Byte × Byte × Byte, ∃ force : Byte × Signature,
      exec .loadStatus s = .next (s.unhandSvc.respond .svl 0x22#8
        ⟨.accepted, [byte s.mode.code, byte s.sub.code, byte s.mapIndex, byte s.sectIndex, item.1, item.2.1, item.2.2, force.1,
          force.2.extractLsb' 24 8, force.2.extractLsb' 16 8, force.2.extractLsb' 8 8, force.2.extractLsb' 0 8]⟩) ∧
      (s.offending = none → item = (0#8, 0#8, 0#8)) ∧
      (∀ o, s.offending = some o → item = (byte o.table.code, byte o.index, byte o.reason.code)) ∧
      (s.inForce = none → force = (0#8, 0#32)) ∧ ∀ g, s.inForce = some g → force = (1#8, g))

/-! ### Modes and the image -/

/-- START_COMPLETE, CLEARING_COMPLETE and VERIFY_COMPLETE at the end of their 100, 40 and 200 ms (R147, R151, R154): a stored image with its signature, or a
legal loaded image, signed and committed, enters force; a store that is empty or bad, or an illegal image, leaves the mode UNCONFIGURED; clearing goes on to
FILLING. The work is done at the completion (log 27), and the store reads as it stands (log 33). Before that moment, and in another mode, nothing happens (log
1). -/
def Obligations.TimedOperations : Prop :=
  ∀ s : State,
    (s.mode = .starting → 100 ≤ s.opTimer →
      (∀ x, s.store = some x → signatureOf x.image.canonical = x.signature →
        exec .startComplete s = .next (s.enterImage x.image x.signature)) ∧
      (s.store = none ∨ (∃ x, s.store = some x ∧ signatureOf x.image.canonical ≠ x.signature) →
        exec .startComplete s = .next { s with mode := .unconfigured, image := Image.default, inForce := none, opTimer := 0 })) ∧
    (¬ (s.mode = .starting ∧ 100 ≤ s.opTimer) → exec .startComplete s = .next s) ∧
    (s.mode = .loading → s.sub = .clearing → 40 ≤ s.opTimer → exec .clearingComplete s =
      .next { s with sub := .filling, mapIndex := 0, sectIndex := 0, image := Image.default, opTimer := 0 }) ∧
    (¬ (s.mode = .loading ∧ s.sub = .clearing ∧ 40 ≤ s.opTimer) → exec .clearingComplete s = .next s) ∧
    (s.mode = .verifying → 200 ≤ s.opTimer →
      (s.image.firstOffence = none → exec .verifyComplete s =
        .next ({ s with store := some ⟨s.image, signatureOf s.image.canonical⟩ }.enterImage s.image
          (signatureOf s.image.canonical))) ∧
      (∀ o, s.image.firstOffence = some o → exec .verifyComplete s =
        .next { s with mode := .unconfigured, offending := some o, inForce := none, opTimer := 0 })) ∧
    (¬ (s.mode = .verifying ∧ 200 ≤ s.opTimer) → exec .verifyComplete s = .next s)

/-- The order of the judgement of a map (R30): with no offence every term names a used section, no entry names one section twice and every used section has a
detection point; a map offence stands at the first offending entry, before any section offence. -/
def Obligations.LegalityJudgement : Prop :=
  ∀ i : Image,
    (i.firstOffence = none ↔
      (∀ d : DP, ∀ t ∈ i.map[d].terms, i.supervision t.sect ≠ .unused) ∧
      (∀ d : DP, (i.map[d].terms.map (·.sect)).Nodup) ∧
      ∀ k : SectNo, i.supervision k ≠ .unused → ∃ d : DP, ∃ t ∈ i.map[d].terms, t.sect = k) ∧
    ∀ o : Offence, i.firstOffence = some o →
      (o.table = .map → o.reason ≠ .noBoundary ∧ ∃ d : DP, d.val = o.index ∧
        (∀ c : DP, c < d → (∀ t ∈ i.map[c].terms, i.supervision t.sect ≠ .unused) ∧ (i.map[c].terms.map (·.sect)).Nodup) ∧
        ∃ before t after, i.map[d].terms = before ++ t :: after ∧
          (∀ u ∈ before, i.supervision u.sect ≠ .unused) ∧ (before.map (·.sect)).Nodup ∧
          (o.reason = .unusedSection ↔ i.supervision t.sect = .unused) ∧
          (o.reason = .duplicateSection ↔ i.supervision t.sect ≠ .unused ∧ t.sect ∈ before.map (·.sect))) ∧
      (o.table = .sect → o.reason = .noBoundary ∧
        (∀ d : DP, (∀ t ∈ i.map[d].terms, i.supervision t.sect ≠ .unused) ∧ (i.map[d].terms.map (·.sect)).Nodup) ∧
        ∃ k : SectNo, k.val = o.index ∧ i.supervision k ≠ .unused ∧ i.boundingSet k = [] ∧
          ∀ j : SectNo, j < k → i.supervision j ≠ .unused → i.boundingSet j ≠ [])

/-- Image entry (R5, R26, R31 to R34, R62, R80, R98, R142, R143, R172, R179): the image comes into force with its signature and every block takes its
image-entry values; the store, the Integrity Monitor, the Timebase, the records and everything else of the links stand (requests for notices log 9, requests
handed on log 34). A candidate count at or above the new QUAL goes to 0 and the qualified level stands, so that a change that is due and not yet taken is lost
(the model's choice, log 30). -/
def Obligations.ImageEntryEffects : Prop :=
  ∀ (s : State) (i : Image) (g : Signature),
    let t := s.enterImage i g
    (t.mode = .awaitEndorse ∧ t.sub = .none ∧ t.offending = none ∧ t.endorsed0 = false ∧ t.endorsed1 = false ∧
      t.image = i ∧ t.inForce = some g) ∧
    (∀ d : DP, t.heads[d] = { s.heads[d] with
      state := .unknown
      bucket := 0
      passageStart := none
      lastAxle := none
      recovery := 0
      cand1 := if i.globals.qual ≤ s.heads[d].cand1 then 0 else s.heads[d].cand1
      cand2 := if i.globals.qual ≤ s.heads[d].cand2 then 0 else s.heads[d].cand2
      outbox := [] }) ∧
    ((∀ (k : SectNo) (d : DP), d ∈ t.bounding[k] ↔ ∃ x ∈ i.map[d].terms, x.sect = k) ∧
      (∀ (d : DP) (l : SupLink), t.routing[d].has l = true ↔ ∃ x ∈ i.map[d].terms,
        i.supervision x.sect = .shared ∨ i.supervision x.sect = (match l with | .sl0 => .sl0 | .sl1 => .sl1)) ∧
      ∀ d : DP, t.codes[d] = some (entryCode d i.map[d])) ∧
    ((∀ k : SectNo, t.sects[k] = ⟨.disturbed, 0, .start, none, none, 0#8, 0#16⟩) ∧ (∀ d : DP, t.view[d] = .notFree) ∧
      t.periodCounter = 0#16 ∧ t.periodTimer = 0) ∧
    (∀ l : SupLink, t.sup l = { s.sup l with reportTimer := 0 }) ∧
    t = { s with
      mode := t.mode, sub := t.sub, offending := t.offending, endorsed0 := t.endorsed0, endorsed1 := t.endorsed1,
      image := t.image, inForce := t.inForce, opTimer := 0, heads := t.heads, bounding := t.bounding, routing := t.routing,
      codes := t.codes, sects := t.sects, view := t.view, periodCounter := t.periodCounter, periodTimer := t.periodTimer,
      lc0 := t.lc0, lc1 := t.lc1 }

/-- SVKEY_INACTIVE: in LOADING the load is abandoned: UNCONFIGURED, no sub-state, the indices, the working image and the store as they stand; in every other
mode only the key itself has changed (R149; the key as state is log 7). A service request that needs the key and is refused (R148): the table's refusal in
each mode; it leaves the key as it was found and, in LOADING under an inactive key, the load abandoned (R149; log 7). -/
def Obligations.KeyAndServiceRefusals : Prop :=
  (∀ s : State,
     (s.mode = .loading →
       exec .svkeyInactive s = .next { s with svkey := false, mode := .unconfigured, sub := .none, opTimer := 0 }) ∧
     (s.mode ≠ .loading → exec .svkeyInactive s = .next { s with svkey := false })) ∧
  (∀ (s : State) (key : Bool) (table index dp a b c e : Nat) (terms : List WireTerm) (g : Globals) (p q : LinkParams),
     ∀ m ∈ [(Instr.loadBegin key, SvcRequest.loadBegin, 0x21#8, false), (.restart key, .restart, 0x28#8, false),
         (.loadIndex key table index, .loadIndex table index, 0x23#8, true),
         (.mapEntry key dp terms, .mapEntry dp terms, 0x24#8, true),
         (.sectionEntry key a b c e, .sectionEntry a b c e, 0x25#8, true),
         (.globalEntry key g p q, .globalEntry g p q, 0x26#8, true), (.loadEnd key, .loadEnd, 0x27#8, true)],
       s.readySvc m.2.1 →
       let found : State :=
         if key = false ∧ s.mode = .loading then { s with svkey := false, mode := .unconfigured, sub := .none, opTimer := 0 }
         else { s with svkey := key }
       let refused := fun r => exec m.1 s = .next (found.unhandSvc.respond .svl m.2.2.1 ⟨r, []⟩)
       (s.mode = .starting ∨ s.mode = .verifying → refused .refusedBusy) ∧
       (s.mode ≠ .starting → s.mode ≠ .verifying → key = false → refused .refusedKey) ∧
       (s.mode = .counting → key = true → refused .refusedLocked) ∧
       (m.2.2.2 = true → key = true → s.mode = .unconfigured ∨ s.mode = .awaitEndorse ∨ s.mode = .halted →
         refused .refusedMode) ∧
       (m.2.2.2 = true → key = true → s.mode = .loading → s.sub = .clearing → refused .refusedBusy))

/-- LOAD_BEGIN taken (R25, R34, R80, R98, R126, R128, R141, R142, R143, R150, R172, R179): every block at its LOAD_BEGIN value, the store and all that the
spec does not name as they stand, among it the requests for notices not yet taken (log 9) and what the supervisory links have handed on (log 34); the key as
state is log 7. From a running mode a candidate count of 5 or more goes to 0 and the qualified level stands, so that a change that is due and not yet taken is
lost (R5; the model's choice, log 30). -/
def Obligations.LoadBeginResult : Prop :=
  ∀ s : State, s.readySvc .loadBegin →
    s.mode = .unconfigured ∨ s.mode = .loading ∨ s.mode = .awaitEndorse ∨ s.mode = .halted →
    ∃ t, exec (.loadBegin true) s = .next t ∧
      (t.mode = .loading ∧ t.sub = .clearing ∧ t.mapIndex = 0 ∧ t.sectIndex = 0 ∧ t.offending = none ∧
        t.endorsed0 = false ∧ t.endorsed1 = false ∧ t.image = Image.default ∧ t.inForce = none ∧ t.opTimer = 0) ∧
      (s.mode.running = true → ∀ d : DP, t.heads[d] = { s.heads[d] with
        state := .unknown
        bucket := 0
        passageStart := none
        lastAxle := none
        recovery := 0
        cand1 := if 5 ≤ s.heads[d].cand1 then 0 else s.heads[d].cand1
        cand2 := if 5 ≤ s.heads[d].cand2 then 0 else s.heads[d].cand2
        outbox := [] }) ∧
      (s.mode.running = false → t.heads = s.heads) ∧ t.derivedNone ∧
      ((∀ k : SectNo, t.sects[k] = ⟨.disturbed, 0, .start, none, none, 0#8, 0#16⟩) ∧ (∀ d : DP, t.view[d] = .notFree) ∧
        t.periodCounter = 0#16 ∧ t.periodTimer = 0) ∧
      (t.softErrors = 0 ∧ t.scrubTimer = none ∧ t.scrubPass = false ∧ t.firstCause = none ∧ t.subCause = none) ∧
      (∀ l : SupLink, t.sup l = { s.sup l with
        ring := [], seq := 0#8, gap := false,
        reportTimer := if s.inForce.isSome = true then 0 else (s.sup l).reportTimer }) ∧
      t.lcs = { s.lcs with handed := none, line := { s.lcs.line with slot := some ⟨0x21#8, .accepted, []⟩ } } ∧
      t = { s with
        mode := t.mode, sub := t.sub, mapIndex := 0, sectIndex := 0, offending := none, endorsed0 := false, endorsed1 := false,
        image := t.image, inForce := none, opTimer := 0, heads := t.heads, bounding := t.bounding, routing := t.routing,
        codes := t.codes, sects := t.sects, view := t.view, periodCounter := t.periodCounter, periodTimer := 0,
        softErrors := 0, scrubTimer := none, scrubPass := false, firstCause := none, subCause := none, lc0 := t.lc0, lc1 := t.lc1,
        lcs := t.lcs, svkey := true }

/-- RESTART taken (R25, R26, R34, R80, R98, R105, R141, R142, R143, R156, R172, R179): every block at its RESTART value; the Timebase, the store, the lines,
the status-due flags, the requests for notices not yet taken (log 9) and what the supervisory links have handed on (log 34) as they stand; the key as state is
log 7. In every mode a candidate count of 5 or more goes to 0 and the qualified level stands, so that a change that is due and not yet taken is lost (R5; the
model's choice, log 30). -/
def Obligations.RestartResult : Prop :=
  ∀ s : State, s.readySvc .restart →
    s.mode = .unconfigured ∨ s.mode = .loading ∨ s.mode = .awaitEndorse ∨ s.mode = .halted →
    ∃ t, exec (.restart true) s = .next t ∧
      (t.mode = .starting ∧ t.sub = .none ∧ t.mapIndex = 0 ∧ t.sectIndex = 0 ∧ t.offending = none ∧
        t.endorsed0 = false ∧ t.endorsed1 = false ∧ t.image = Image.default ∧ t.inForce = none ∧ t.opTimer = 0) ∧
      (∀ d : DP, t.heads[d] = { s.heads[d] with
        state := .unknown
        bucket := 0
        passageStart := none
        lastAxle := none
        recovery := 0
        lastCause := .none
        cand1 := if 5 ≤ s.heads[d].cand1 then 0 else s.heads[d].cand1
        cand2 := if 5 ≤ s.heads[d].cand2 then 0 else s.heads[d].cand2
        outbox := [] }) ∧ t.derivedNone ∧
      ((∀ k : SectNo, t.sects[k] = ⟨.disturbed, 0, .start, none, none, 0#8, 0#16⟩) ∧ (∀ d : DP, t.view[d] = .notFree) ∧
        t.periodCounter = 0#16 ∧ t.periodTimer = 0 ∧ ∀ k : SectNo, t.records[k] = none) ∧
      (t.softErrors = 0 ∧ t.scrubTimer = none ∧ t.scrubPass = false ∧ t.firstCause = none ∧ t.subCause = none ∧
        t.clockTicks = 0) ∧
      (∀ l : SupLink, t.sup l = { s.sup l with
        notices := 0#10, mask := 0#10, attnMode := .level, attn := false, pulse := none, ring := [], seq := 0#8, gap := false,
        reportTimer := if s.inForce.isSome = true then 0 else (s.sup l).reportTimer }) ∧
      t.lcs = { s.lcs with handed := none, line := { s.lcs.line with slot := some ⟨0x28#8, .accepted, []⟩ } } ∧
      t = { s with
        mode := t.mode, sub := t.sub, mapIndex := 0, sectIndex := 0, offending := none, endorsed0 := false, endorsed1 := false,
        image := t.image, inForce := none, opTimer := 0, heads := t.heads, bounding := t.bounding, routing := t.routing,
        codes := t.codes, sects := t.sects, view := t.view, periodCounter := t.periodCounter, periodTimer := 0,
        records := t.records, softErrors := 0, scrubTimer := none, scrubPass := false, clockTicks := 0, firstCause := none,
        subCause := none, lc0 := t.lc0, lc1 := t.lc1, lcs := t.lcs, svkey := true }

/-- LOAD_INDEX and LOAD_END in FILLING with the key active (R152, R154): an index within its table is taken and the other stands; LOAD_END is answered
ACCEPTED and verifying begins. -/
def Obligations.LoadIndexAndEnd : Prop :=
  ∀ s : State, s.mode = .loading → s.sub = .filling →
    let u : State := { s with svkey := true }.unhandSvc
    (∀ table index : Nat, s.readySvc (.loadIndex table index) →
      (table = 0 → index ≤ 31 → exec (.loadIndex true table index) s =
        .next (State.respond { u with mapIndex := index } .svl 0x23#8 ⟨.accepted, []⟩)) ∧
      (table = 1 → index ≤ 23 → exec (.loadIndex true table index) s =
        .next (State.respond { u with sectIndex := index } .svl 0x23#8 ⟨.accepted, []⟩)) ∧
      ((table = 0 ∧ 31 < index) ∨ (table = 1 ∧ 23 < index) ∨ 1 < table →
        exec (.loadIndex true table index) s = .next (u.respond .svl 0x23#8 ⟨.refusedRange, []⟩))) ∧
    (s.readySvc .loadEnd → exec (.loadEnd true) s =
      .next (State.respond { u with mode := .verifying, sub := .none, opTimer := 0 } .svl 0x27#8 ⟨.accepted, []⟩))

/-- MAP_ENTRY in FILLING with the key active (R29, R153): the four checks, and then the whole entry, its terms in the order carried; the index advances. -/
def Obligations.MapEntryResult : Prop :=
  ∀ (s : State) (dp : Nat) (terms : List WireTerm), s.mode = .loading → s.sub = .filling → s.readySvc (.mapEntry dp terms) →
    let u : State := { s with svkey := true }.unhandSvc
    (31 < dp ∨ dp ≠ s.mapIndex ∨ 4 < terms.length ∨ (∃ t ∈ terms, 23 < t.sect) →
      exec (.mapEntry true dp terms) s = .next (u.respond .svl 0x24#8 ⟨.refusedRange, []⟩)) ∧
    ∀ d : DP, d.val = dp → dp = s.mapIndex → terms.length ≤ 4 → (∀ t ∈ terms, t.sect ≤ 23) →
      ∃ ts : List Term, ts.map (fun t => (⟨t.sect.val, t.sense, t.notify⟩ : WireTerm)) = terms ∧
        exec (.mapEntry true dp terms) s = .next (State.respond
          { u with image := { s.image with map := s.image.map.set d ⟨ts⟩ }, mapIndex := dp + 1 } .svl 0x24#8 ⟨.accepted, []⟩)

/-- SECTION_ENTRY and GLOBAL_ENTRY in FILLING with the key active (R144, R145, R153). A code that names nothing, or the section index past the last entry,
refuses the whole section entry; otherwise it is written with SETTLE_EXT and QUIET_WINDOW lowered to their ranges and the index advances. Every global and
link parameter is written, brought within its range. CLAMPED where a value was not within it. -/
def Obligations.SectionAndGlobalEntries : Prop :=
  (∀ (s : State) (v : Supervision) (supervision direct ext quiet : Nat), s.mode = .loading → s.sub = .filling →
     s.readySvc (.sectionEntry supervision direct ext quiet) →
     let u : State := { s with svkey := true }.unhandSvc
     (3 < supervision ∨ 1 < direct ∨ 23 < s.sectIndex →
       exec (.sectionEntry true supervision direct ext quiet) s = .next (u.respond .svl 0x25#8 ⟨.refusedRange, []⟩)) ∧
     ∀ k : SectNo, k.val = s.sectIndex → v.code = supervision → direct ≤ 1 →
       exec (.sectionEntry true supervision direct ext quiet) s = .next (State.respond
         { u with
           image := { s.image with sects := s.image.sects.set k ⟨v, decide (direct = 1), min ext 15, min quiet 8⟩ }
           sectIndex := s.sectIndex + 1 }
         .svl 0x25#8 ⟨if ext ≤ 15 ∧ quiet ≤ 8 then .accepted else .clamped, []⟩)) ∧
  (∀ (s : State) (g : Globals) (p q : LinkParams), s.mode = .loading → s.sub = .filling → s.readySvc (.globalEntry g p q) →
     let u : State := { s with svkey := true }.unhandSvc
     let g' : Globals := ⟨within 1 50 g.settleBase, within 1 31 g.qual, within 1 255 g.minPassage, within 0 255 g.minFree,
       within 2 31 g.glitchLimit, within 1 30 g.recovery, within 2 60 g.concurWindow, within 0 7 g.histExp,
       within 1 15 g.softLimit, within 1 60 g.scrubPeriod⟩
     let p' : LinkParams := ⟨within 0 3 p.lineRate, within 4 9 p.reportExp⟩
     let q' : LinkParams := ⟨within 0 3 q.lineRate, within 4 9 q.reportExp⟩
     exec (.globalEntry true g p q) s = .next (State.respond
       { u with image := { s.image with globals := g', params0 := p', params1 := q' } } .svl 0x26#8
       ⟨if g' = g ∧ p' = p ∧ q' = q then .accepted else .clamped, []⟩))

/-- ENDORSE (R78, R128, R157): in AWAIT_ENDORSE the signature of the image in force sets the link's endorsement, and the second endorsement enters COUNTING,
with every used section's record set anew and the scrub timer started; a signature that differs is refused. In COUNTING it is answered and changes nothing; in
every other mode it is refused. -/
def Obligations.EndorseResult : Prop :=
  ∀ (s : State) (l : SupLink) (g : Signature), s.readySup l (.endorse g) →
    let answered := fun t r => exec (.endorse l g) s = .next (State.respond t (.sup l) 0x17#8 ⟨r, []⟩)
    let u := s.unhandSup l
    (s.mode = .awaitEndorse →
      (s.inForce ≠ some g → answered u .refusedSignature) ∧
      (s.inForce = some g → s.endorsed l.other = false → answered (u.setEndorsed l true) .accepted) ∧
      (s.inForce = some g → s.endorsed l.other = true → answered
        { u.setEndorsed l true with
          mode := .counting
          scrubTimer := some 0
          sects := tabulate fun k =>
            if s.used k = true then
              { s.sects[k] with state := .disturbed, count := 0, cause := .start, causeDP := none, settle := none }
            else s.sects[k] } .accepted)) ∧
    (s.mode = .counting →
      (s.inForce = some g → answered u .accepted) ∧ (s.inForce ≠ some g → answered u .refusedSignature)) ∧
    (s.mode ≠ .awaitEndorse → s.mode ≠ .counting → answered u .refusedMode)

/-- WITHDRAW (R76, R117, R128, R129, R158): the link's endorsement is cleared and the answer is ACCEPTED in every mode. In COUNTING the mode also becomes
AWAIT_ENDORSE: every record is gone with CONCUR_LAPSED asked for on its opener, each used section not DISTURBED becomes so with cause NOT_COUNTING and its
change is reported, the scrub stops, and ENDORSE_LOST is asked for on the other link. -/
def Obligations.WithdrawResult : Prop :=
  ∀ (s : State) (l : SupLink), s.readySup l .withdraw →
    let answered := fun t => exec (.withdraw l) s = .next (State.respond t (.sup l) 0x18#8 ⟨.accepted, []⟩)
    let u := (s.unhandSup l).setEndorsed l false
    (s.mode ≠ .counting → answered u) ∧
    (s.mode = .counting →
      let lapsed : State := { u with
        records := Vector.replicate 24 none
        lc0 := { u.lc0 with asked := u.lc0.asked ++ (List.finRange 24).flatMap fun k => s.lapses k .sl0 }
        lc1 := { u.lc1 with asked := u.lc1.asked ++ (List.finRange 24).flatMap fun k => s.lapses k .sl1 } }
      let disturbed := lapsed.reported fun k =>
        if s.used k = true ∧ s.sects[k].state ≠ .disturbed then
          { s.sects[k] with state := .disturbed, cause := .notCounting, causeDP := none, settle := none }
        else s.sects[k]
      answered (State.ask { disturbed with mode := .awaitEndorse, scrubTimer := none, scrubPass := false }
        .endorseLost l.other))

/-! ### Links -/

/-- CHARACTER_RECEIVED (R160, R163): a character received whole, with a good stop bit and odd parity, is appended while fewer than 64 bytes are held; any other
takes the receiver to DISCARDING, where characters are ignored. A supervisory receiver found IDLE has taken its rate first (R159; log 17). -/
def Obligations.CharacterResult : Prop :=
  ∀ (s : State) (l : Link) (c : Character),
    let good := c.stop = true ∧ ((List.range 8).countP (fun i => c.data.getLsbD i) + if c.parity = true then 1 else 0) % 2 = 1
    let x := s.line l
    let answered := fun (rx : Receiver) => ∃ t, exec (.characterReceived l c) s = .next t ∧
      t = s.setLine l { x with
        rx := rx
        rxRate := if x.rx = .idle then (match l with | .sup m => s.targetRate m | .svl => x.rxRate) else x.rxRate }
    (x.rx = .idle → good → answered (.receiving [c.data])) ∧ (x.rx = .idle → ¬ good → answered .discarding) ∧
    (∀ bytes, x.rx = .receiving bytes →
      (good → bytes.length < 64 → answered (.receiving (bytes ++ [c.data]))) ∧
      (¬ good ∨ 64 ≤ bytes.length → answered .discarding)) ∧
    (x.rx = .discarding → answered .discarding)

/-- What a controller accepts (R161, R162, R164): the telegrams of a kind that its link takes and a payload of at most 59 bytes, and nothing else. What a
transmitter sends for a byte (R160): a low start bit, the eight data bits with the least significant first, an odd parity bit and a high stop bit, 11 levels
in all, which a receiver takes as that byte. The characters of a telegram follow one another with nothing between them (R161) and occupy the line for 11 bit
times each (R160); the line is high in IDLE, in the 22 bit times of GAP, and after the last stop bit (R160, R167; no step counts bit times, log 15). -/
def Obligations.AcceptedTelegrams : Prop :=
  (∀ b : Byte,
    (∃ parity : Bool, characterLevels (sentCharacter b) =
      [false, b.getLsbD 0, b.getLsbD 1, b.getLsbD 2, b.getLsbD 3, b.getLsbD 4, b.getLsbD 5, b.getLsbD 6, b.getLsbD 7, parity, true] ∧
      ((List.range 8).countP (fun i => b.getLsbD i) + if parity = true then 1 else 0) % 2 = 1) ∧
    Receiver.idle.next (sentCharacter b) = .receiving [b]) ∧
  (∀ bytes : List Byte,
    let sending := Transmitter.sending (sentCharacters bytes)
    sending.bitTimes = some (11 * bytes.length) ∧
    (List.range (11 * bytes.length)).map sending.level = bytes.flatMap (fun b => characterLevels (sentCharacter b)) ∧
    ∀ bit, 11 * bytes.length ≤ bit → sending.level bit = true) ∧
  (Transmitter.gap.bitTimes = some 22 ∧ Transmitter.idle.bitTimes = none ∧
    ∀ bit, Transmitter.gap.level bit = true ∧ Transmitter.idle.level bit = true) ∧
  (∀ l kind, takesKind l kind = true ↔ match l with
    | .sup _ => 0x11 ≤ kind.toNat ∧ kind.toNat ≤ 0x18
    | .svl => 0x21 ≤ kind.toNat ∧ kind.toNat ≤ 0x2A) ∧
  (∀ (l : Link) (kind : Byte) (payload : List Byte), takesKind l kind = true → payload.length ≤ 59 →
    acceptTelegram l (telegram kind payload) = some (kind, payload)) ∧
  (∀ (l : Link) (bytes : List Byte) (kind : Byte) (payload : List Byte), acceptTelegram l bytes = some (kind, payload) →
    takesKind l kind = true ∧ payload.length ≤ 59 ∧ bytes = telegram kind payload) ∧
  ∀ (kind : Byte) (payload : List Byte), payload.length ≤ 59 →
    ∃ len crc1 crc2 : Byte, telegram kind payload = 0xA6#8 :: len :: kind :: payload ++ [crc1, crc2] ∧
      len.toNat = payload.length + 1 ∧ crc1 ++ crc2 = crc 4129#16 (len :: kind :: payload)

/-- The payload check reads back every request laid out as R170 gives, with every field at every value a byte carries, and accepts nothing else
(R165, R170). -/
def Obligations.PayloadsReadBack : Prop :=
  (∀ r : SupRequest, supFits r = true → parseSup (supKind r) (supPayload r) = some r) ∧
  (∀ r : SvcRequest, svcFits r = true → parseSvc (svcKind r) (svcPayload r) = some r) ∧
  (∀ (kind : Byte) (payload : List Byte) (r : SupRequest), parseSup kind payload = some r →
    supFits r = true ∧ kind = supKind r ∧ payload = supPayload r) ∧
  ∀ (kind : Byte) (payload : List Byte) (r : SvcRequest), payload.length ≤ 59 → parseSvc kind payload = some r →
    svcFits r = true ∧ kind = svcKind r ∧ payload = svcPayload r

/-- TELEGRAM_END (R163 to R166): an idle receiver has no telegram to end (log 1); a discarded telegram, and one that the controller does not accept, sets the
line-fault flag and, on a supervisory link, LINE_FAULT, at once (log 8); an accepted request is not acted on while the slot is occupied, is refused with
REFUSED_RANGE where its payload is malformed, and is otherwise handed on (a request handed on and not yet taken counts as occupying the slot, log 6). -/
def Obligations.TelegramEndResult : Prop :=
  ∀ (s : State) (l : Link),
    let x := s.line l
    let idle := s.setLine l { x with rx := .idle }
    let rejected := s.setLine l { x with rx := .idle, lineFault := true }
    let rejects := exec (.telegramEnd l) s =
      .next (match l with | .sup m => rejected.setSup m ((rejected.sup m).setNotice .lineFault) | .svl => rejected)
    let busy := x.slot.isSome = true ∨ (match l with | .sup m => (s.sup m).handed.isSome | .svl => s.lcs.handed.isSome) = true
    (x.rx = .idle → exec (.telegramEnd l) s = .next s) ∧ (x.rx = .discarding → rejects) ∧
    ∀ bytes, x.rx = .receiving bytes →
      (acceptTelegram l bytes = none → rejects) ∧
      ∀ kind payload, acceptTelegram l bytes = some (kind, payload) →
        (busy → exec (.telegramEnd l) s = .next (s.setLine l { x with rx := .idle, overrun := true })) ∧
        (¬ busy →
          let malformed := exec (.telegramEnd l) s = .next (idle.respond l kind ⟨.refusedRange, []⟩)
          match l with
          | .sup m =>
            (parseSup kind payload = none → malformed) ∧
            ∀ r, parseSup kind payload = some r →
              exec (.telegramEnd l) s = .next (idle.setSup m { idle.sup m with handed := some r })
          | .svl =>
            (parseSvc kind payload = none → malformed) ∧
            ∀ r, parseSvc kind payload = some r →
              exec (.telegramEnd l) s = .next { idle with lcs := { idle.lcs with handed := some r } })

/-- Every request of a supervisory link and every request of the service link, with all its operands and under either level of the key, that finds another
handed on or the slot occupied is not acted on: the request-overrun flag is set and nothing else changes, not even the key last seen (R148, R166; that a
request handed on counts as occupying the slot is log 6). -/
def Obligations.OverrunResult : Prop :=
  (∀ (s : State) (l : SupLink) (r : SupRequest), (s.sup l).handed ≠ some r →
    (s.sup l).handed.isSome = true ∨ (s.sup l).line.slot.isSome = true →
    exec (supCommand l r) s = .next (s.setSup l { s.sup l with line := { (s.sup l).line with overrun := true } })) ∧
  ∀ (s : State) (key : Bool) (r : SvcRequest), s.lcs.handed ≠ some r →
    s.lcs.handed.isSome = true ∨ s.lcs.line.slot.isSome = true →
    exec (svcCommand key r) s = .next { s with lcs := { s.lcs with line := { s.lcs.line with overrun := true } } }

/-- RESPONSE_START, STATUS_START and EVENTS_START (R108, R159, R166, R167, R171, R173, R178): an IDLE transmitter starts what waits, a response before a
status before events, with the content as it stands, at the rate it is to take (R159; that a transmitter found IDLE has had its idle moment is log 17); a
response empties the slot, a status clears the status-due flag, events leave the ring and the gap flag clears, and a response or a status clears the two link
flags. Otherwise nothing starts (log 1). -/
def Obligations.TransmitStarts : Prop :=
  (∀ (s : State) (l : Link),
    let x := s.line l
    let rate := match l with | .sup m => s.targetRate m | .svl => x.txRate
    let flags := (if x.overrun = true then 1#8 else 0#8) + if x.lineFault = true then 2#8 else 0#8
    (∀ r, x.tx = .idle → x.slot = some r → exec (.responseStart l) s = .next (s.setLine l
      { x with
        tx := .sending (sentCharacters (telegram 0x82#8 (r.kind :: byte r.result.code :: flags :: r.data)))
        txRate := rate
        slot := none
        overrun := false
        lineFault := false })) ∧
    (x.tx ≠ .idle ∨ x.slot = none → exec (.responseStart l) s = .next s)) ∧
  ∀ (s : State) (l : SupLink),
    let x := s.sup l
    let flags := (if x.line.overrun = true then 1#8 else 0#8) + if x.line.lineFault = true then 2#8 else 0#8
    let pair := fun (k : SectNo) => [byte k.val, byte (s.sects[k].state.code + match s.records[k] with
      | none => 0
      | some r => 8 + (match r.kind with | .prep => 16 | .direct => 32) + if r.opener = l then 64 else 0)]
    (x.line.tx = .idle → x.line.slot = none → x.statusDue = true → exec (.statusStart l) s = .next (s.setSup l
      { x with
        statusDue := false
        line := { x.line with
          tx := .sending (sentCharacters (telegram 0x81#8 (byte s.mode.code :: byte (x.notices.toNat / 256) :: byte x.notices.toNat :: flags ::
            ((List.finRange 24).filter (s.supervises l)).flatMap pair)))
          txRate := s.targetRate l
          overrun := false
          lineFault := false } })) ∧
    (x.line.tx ≠ .idle ∨ x.line.slot ≠ none ∨ x.statusDue = false → exec (.statusStart l) s = .next s) ∧
    (x.line.tx = .idle → x.line.slot = none → x.statusDue = false → x.ring ≠ [] → exec (.eventsStart l) s = .next (s.setSup l
      { x with
        ring := x.ring.drop 6
        gap := false
        line := { x.line with
          tx := .sending (sentCharacters (telegram 0x83#8 ((if x.gap = true then 1#8 else 0#8) :: byte (min 6 x.ring.length) ::
            (x.ring.take 6).flatMap fun r => [r.seq, byte r.dp.val, (match r.dir with | .n => 0#8 | .r => 1#8),
              byte (r.stamp.toNat / 256), byte r.stamp.toNat])))
          txRate := s.targetRate l } })) ∧
    (x.line.tx ≠ .idle ∨ x.line.slot ≠ none ∨ x.statusDue = true ∨ x.ring = [] → exec (.eventsStart l) s = .next s)

/-- TRANSMIT_END takes a sending transmitter to GAP and GAP_END one in GAP to IDLE (R167); on a transmitter in another state each changes nothing (the model's
choice, log 1). LINE_RATE_CHANGE gives an IDLE direction of a supervisory line the rate of the image in force, 19,200 bit/s with none, and leaves one that is
not IDLE as it is (R144, R159). -/
def Obligations.EndsAndRates : Prop :=
  (∀ (s : State) (l : Link),
    let x := s.line l
    (∀ b, x.tx = .sending b → exec (.transmitEnd l) s = .next (s.setLine l { x with tx := .gap })) ∧
    ((∀ b, x.tx ≠ .sending b) → exec (.transmitEnd l) s = .next s) ∧
    (x.tx = .gap → exec (.gapEnd l) s = .next (s.setLine l { x with tx := .idle })) ∧
    (x.tx ≠ .gap → exec (.gapEnd l) s = .next s)) ∧
  ∀ (s : State) (l : SupLink),
    let x := s.line (.sup l)
    let rate := if s.inForce = none then 19200 else
      match (s.image.params l).lineRate with | 0 => 19200 | 1 => 38400 | 2 => 57600 | _ => 115200
    (x.rx = .idle → exec (.lineRateChange l .receive) s = .next (s.setLine (.sup l) { x with rxRate := rate })) ∧
    (x.rx ≠ .idle → exec (.lineRateChange l .receive) s = .next s) ∧
    (x.tx = .idle → exec (.lineRateChange l .transmit) s = .next (s.setLine (.sup l) { x with txRate := rate })) ∧
    (x.tx ≠ .idle → exec (.lineRateChange l .transmit) s = .next s)

/-- NOTICE_SET (R174, R176): a controller takes a request that another block made; the notice is set, a clear one that goes set moves the attention line, in
level mode as the level rule says and in pulse mode by a pulse of 1 ms where the mask holds it; a set one stays set. With no such request nothing happens (log
1, log 8). NOTICE_ACK, NOTICE_MASK and ATTN_PULSE_END (R175, R176, R179; the pulse in steps is log 18): an acknowledgement clears the notices named in bits 0
to 9; a mask takes bits 0 to 9 and the attention mode, ends any pulse, and leaves the notices; the line follows the level rule in level mode and is deasserted
by a mask that sets pulse mode; a pulse ends after ten steps. -/
def Obligations.NoticesAndAttention : Prop :=
  (∀ (s : State) (l : SupLink) (n : Notice),
     let x := { s.sup l with asked := (s.sup l).asked.erase n }
     let bit := 1#10 <<< noticeBit n
     let y := { x with notices := x.notices ||| bit }
     let taken := fun z => exec (.noticeSet l n) s = .next (s.setSup l z)
     (n ∉ (s.sup l).asked → exec (.noticeSet l n) s = .next s) ∧
     (n ∈ (s.sup l).asked →
       (x.notices &&& bit ≠ 0#10 → taken x) ∧
       (x.notices &&& bit = 0#10 →
         (x.attnMode = .level → taken { y with attn := decide (y.notices &&& y.mask ≠ 0#10) }) ∧
         (x.attnMode = .pulse → x.mask &&& bit ≠ 0#10 → taken { y with attn := true, pulse := some 0 }) ∧
         (x.attnMode = .pulse → x.mask &&& bit = 0#10 → taken y)))) ∧
  ((∀ (s : State) (l : SupLink) (m : BitVec 16), s.readySup l (.noticeAck m) →
     let x := s.sup l
     let left := x.notices &&& ~~~ (m.truncate 10)
     exec (.noticeAck l m) s = .next (((s.unhandSup l).setSup l { (s.unhandSup l).sup l with
       notices := left
       attn := if x.attnMode = .level then decide (left &&& x.mask ≠ 0#10) else x.attn }).respond (.sup l) 0x15#8 ⟨.accepted, []⟩)) ∧
   (∀ (s : State) (l : SupLink) (m : BitVec 16) (a : Nat), s.readySup l (.noticeMask m a) →
     let x := s.sup l
     let mask : BitVec 10 := m.truncate 10
     exec (.noticeMask l m a) s = .next (((s.unhandSup l).setSup l { (s.unhandSup l).sup l with
       mask := mask
       attnMode := if a = 0 then .level else .pulse
       pulse := none
       attn := if a = 0 then decide (x.notices &&& mask ≠ 0#10) else false }).respond (.sup l) 0x16#8 ⟨.accepted, []⟩)) ∧
   ∀ (s : State) (l : SupLink),
     (∀ e, (s.sup l).pulse = some e → 10 ≤ e →
       exec (.attnPulseEnd l) s = .next (s.setSup l { s.sup l with pulse := none, attn := false })) ∧
     ((∀ e, (s.sup l).pulse = some e → e < 10) → exec (.attnPulseEnd l) s = .next s))

/-- A ring that is offered an event (R56, R177): the event takes the counter's value and the counter advances; a full ring, or one that holds that number,
drops the record, sets the gap flag and RING_GAP, and keeps what it holds; otherwise the record is taken at the newest end, and the 33rd sets RING_HALF. The
two notices are set at once, by the controller itself (R55, R56), where R177 says that they are asked for: the model's reading, log 8. -/
def Obligations.RingOfferResult : Prop :=
  ∀ (x : Sup) (e : AxleEvent),
    let y := { x with seq := BitVec.ofNat 8 (x.seq.toNat + 1) }
    let z := { y with ring := x.ring ++ [⟨x.seq, e.dp, e.dir, e.stamp⟩] }
    (x.ring.length < 64 → x.seq ∉ x.ring.map (·.seq) → x.ring.length ≠ 32 → x.offer e = z) ∧
    (x.ring.length = 32 → x.seq ∉ x.ring.map (·.seq) → x.offer e = z.setNotice .ringHalf) ∧
    (64 ≤ x.ring.length ∨ x.seq ∈ x.ring.map (·.seq) → x.offer e = Sup.setNotice .ringGap { y with gap := true })

/-! ### Laws that every step keeps -/

/-- The law of the section records is kept by every step: in particular, a section is CLEAR only in COUNTING, with count 0 and every bounding head FREE in the
Counting Engine's view (R61, R63, R65, R70, R79). -/
def Obligations.SectionLawKept : Prop :=
  ∀ s t : State, SectionLaw s → step s = .next t → SectionLaw t

/-- The law of the pending records is kept by every step: at most one per section, only on a SHARED section that is OCCUPIED or DISTURBED in COUNTING
(R105). -/
def Obligations.RecordLawKept : Prop :=
  ∀ s t : State, RecordLaw s → step s = .next t → RecordLaw t

/-- The law of modes and endorsements is kept by every step: the mode is COUNTING only while both links hold an endorsement, and an endorsement is held only
while an image is in force (R142, R157). -/
def Obligations.ModeLawKept : Prop :=
  ∀ s t : State, ModeLaw s → step s = .next t → ModeLaw t

/-- The law of the image is kept by every step: values in range, the image in force legal, named by its own signature, with its derived sets in effect, and the
image in the store legal (R30, R34, R142, R144, R145). -/
def Obligations.ImageLawKept : Prop :=
  ∀ s t : State, ImageLaw s → step s = .next t → ImageLaw t

/-- The law of the Integrity Monitor is kept by every step (R126 to R129, R132, R135, R141). -/
def Obligations.IntegrityLawKept : Prop :=
  ∀ s t : State, IntegrityLaw s → step s = .next t → IntegrityLaw t

/-- The law of the heads is kept by every step: the pair that goes with each state, the bucket below its limit, and the Counting Engine's view behind a head by
just what the head has handed on (R6, R9, R22, R25, R62). -/
def Obligations.HeadLawKept : Prop :=
  ∀ s t : State, HeadLaw s → step s = .next t → HeadLaw t

/-- The law of the links is kept by every step: receivers hold at most 64 bytes, transmitters send telegrams of 5 to 64 characters with odd parity and a high
stop bit, rings at most 64 records with no number twice, attention lines as their mode says (R159 to R161, R163, R176, R177). -/
def Obligations.LinkLawKept : Prop :=
  ∀ s t : State, LinkLaw s → step s = .next t → LinkLaw t
end

