-- ==== Sys2Proof/Laws/State.lean ====
section
/-! SUPPORT. Reading a field after an update of the state: one lemma per field and update, and get-after-set for each block's
records. -/

namespace Sys2Proof.Machine

/-! ### Vectors given entry by entry -/

@[simp] theorem tabulate_getElem {α : Type} {n : Nat} (f : Fin n → α) (i : Nat) (h : i < n) : (tabulate f)[i] = f ⟨i, h⟩ := by
  unfold tabulate; simp

theorem tabulate_get {α : Type} {n : Nat} (f : Fin n → α) (k : Fin n) : (tabulate f)[k] = f k := by simp

/-- A vector that reads as a table gives is that table. -/
theorem eq_tabulate {α : Type} {n : Nat} (v : Vector α n) (f : Fin n → α) (h : ∀ k : Fin n, v[k] = f k) : v = tabulate f :=
  Vector.ext fun i hi => (h ⟨i, hi⟩).trans (tabulate_getElem f i hi).symm

theorem tabulate_congr {α : Type} {n : Nat} (f g : Fin n → α) (h : ∀ k, f k = g k) : tabulate f = tabulate g := by
  rw [funext h]

variable (s : State)

/-! ### setSup -/

@[simp] theorem setSup_stepNo (l : SupLink) (x : Sup) : (s.setSup l x).stepNo = s.stepNo := by cases l <;> rfl

@[simp] theorem setSup_stamp (l : SupLink) (x : Sup) : (s.setSup l x).stamp = s.stamp := by cases l <;> rfl

@[simp] theorem setSup_drainDue (l : SupLink) (x : Sup) : (s.setSup l x).drainDue = s.drainDue := by cases l <;> rfl

@[simp] theorem setSup_heads (l : SupLink) (x : Sup) : (s.setSup l x).heads = s.heads := by cases l <;> rfl

@[simp] theorem setSup_bounding (l : SupLink) (x : Sup) : (s.setSup l x).bounding = s.bounding := by cases l <;> rfl

@[simp] theorem setSup_routing (l : SupLink) (x : Sup) : (s.setSup l x).routing = s.routing := by cases l <;> rfl

@[simp] theorem setSup_codes (l : SupLink) (x : Sup) : (s.setSup l x).codes = s.codes := by cases l <;> rfl

@[simp] theorem setSup_sects (l : SupLink) (x : Sup) : (s.setSup l x).sects = s.sects := by cases l <;> rfl

@[simp] theorem setSup_view (l : SupLink) (x : Sup) : (s.setSup l x).view = s.view := by cases l <;> rfl

@[simp] theorem setSup_periodCounter (l : SupLink) (x : Sup) : (s.setSup l x).periodCounter = s.periodCounter := by cases l <;> rfl

@[simp] theorem setSup_periodTimer (l : SupLink) (x : Sup) : (s.setSup l x).periodTimer = s.periodTimer := by cases l <;> rfl

@[simp] theorem setSup_records (l : SupLink) (x : Sup) : (s.setSup l x).records = s.records := by cases l <;> rfl

@[simp] theorem setSup_mode (l : SupLink) (x : Sup) : (s.setSup l x).mode = s.mode := by cases l <;> rfl

@[simp] theorem setSup_sub (l : SupLink) (x : Sup) : (s.setSup l x).sub = s.sub := by cases l <;> rfl

@[simp] theorem setSup_mapIndex (l : SupLink) (x : Sup) : (s.setSup l x).mapIndex = s.mapIndex := by cases l <;> rfl

@[simp] theorem setSup_sectIndex (l : SupLink) (x : Sup) : (s.setSup l x).sectIndex = s.sectIndex := by cases l <;> rfl

@[simp] theorem setSup_offending (l : SupLink) (x : Sup) : (s.setSup l x).offending = s.offending := by cases l <;> rfl

@[simp] theorem setSup_endorsed0 (l : SupLink) (x : Sup) : (s.setSup l x).endorsed0 = s.endorsed0 := by cases l <;> rfl

@[simp] theorem setSup_endorsed1 (l : SupLink) (x : Sup) : (s.setSup l x).endorsed1 = s.endorsed1 := by cases l <;> rfl

@[simp] theorem setSup_image (l : SupLink) (x : Sup) : (s.setSup l x).image = s.image := by cases l <;> rfl

@[simp] theorem setSup_inForce (l : SupLink) (x : Sup) : (s.setSup l x).inForce = s.inForce := by cases l <;> rfl

@[simp] theorem setSup_store (l : SupLink) (x : Sup) : (s.setSup l x).store = s.store := by cases l <;> rfl

@[simp] theorem setSup_opTimer (l : SupLink) (x : Sup) : (s.setSup l x).opTimer = s.opTimer := by cases l <;> rfl

@[simp] theorem setSup_softErrors (l : SupLink) (x : Sup) : (s.setSup l x).softErrors = s.softErrors := by cases l <;> rfl

@[simp] theorem setSup_scrubTimer (l : SupLink) (x : Sup) : (s.setSup l x).scrubTimer = s.scrubTimer := by cases l <;> rfl

@[simp] theorem setSup_scrubPass (l : SupLink) (x : Sup) : (s.setSup l x).scrubPass = s.scrubPass := by cases l <;> rfl

@[simp] theorem setSup_clockTicks (l : SupLink) (x : Sup) : (s.setSup l x).clockTicks = s.clockTicks := by cases l <;> rfl

@[simp] theorem setSup_firstCause (l : SupLink) (x : Sup) : (s.setSup l x).firstCause = s.firstCause := by cases l <;> rfl

@[simp] theorem setSup_subCause (l : SupLink) (x : Sup) : (s.setSup l x).subCause = s.subCause := by cases l <;> rfl

@[simp] theorem setSup_lcs (l : SupLink) (x : Sup) : (s.setSup l x).lcs = s.lcs := by cases l <;> rfl

@[simp] theorem setSup_svkey (l : SupLink) (x : Sup) : (s.setSup l x).svkey = s.svkey := by cases l <;> rfl

@[simp] theorem setSup_free (l : SupLink) (x : Sup) : (s.setSup l x).free = s.free := by cases l <;> rfl

@[simp] theorem setSup_pending (l : SupLink) (x : Sup) : (s.setSup l x).pending = s.pending := by cases l <;> rfl

/-! ### setLine -/

@[simp] theorem setLine_stepNo (l : Link) (x : Line) : (s.setLine l x).stepNo = s.stepNo := by rcases l with (l | l) | _ <;> rfl

@[simp] theorem setLine_stamp (l : Link) (x : Line) : (s.setLine l x).stamp = s.stamp := by rcases l with (l | l) | _ <;> rfl

@[simp] theorem setLine_drainDue (l : Link) (x : Line) : (s.setLine l x).drainDue = s.drainDue := by rcases l with (l | l) | _ <;> rfl

@[simp] theorem setLine_heads (l : Link) (x : Line) : (s.setLine l x).heads = s.heads := by rcases l with (l | l) | _ <;> rfl

@[simp] theorem setLine_bounding (l : Link) (x : Line) : (s.setLine l x).bounding = s.bounding := by rcases l with (l | l) | _ <;> rfl

@[simp] theorem setLine_routing (l : Link) (x : Line) : (s.setLine l x).routing = s.routing := by rcases l with (l | l) | _ <;> rfl

@[simp] theorem setLine_codes (l : Link) (x : Line) : (s.setLine l x).codes = s.codes := by rcases l with (l | l) | _ <;> rfl

@[simp] theorem setLine_sects (l : Link) (x : Line) : (s.setLine l x).sects = s.sects := by rcases l with (l | l) | _ <;> rfl

@[simp] theorem setLine_view (l : Link) (x : Line) : (s.setLine l x).view = s.view := by rcases l with (l | l) | _ <;> rfl

@[simp] theorem setLine_periodCounter (l : Link) (x : Line) : (s.setLine l x).periodCounter = s.periodCounter := by rcases l with (l | l) | _ <;> rfl

@[simp] theorem setLine_periodTimer (l : Link) (x : Line) : (s.setLine l x).periodTimer = s.periodTimer := by rcases l with (l | l) | _ <;> rfl

@[simp] theorem setLine_records (l : Link) (x : Line) : (s.setLine l x).records = s.records := by rcases l with (l | l) | _ <;> rfl

@[simp] theorem setLine_mode (l : Link) (x : Line) : (s.setLine l x).mode = s.mode := by rcases l with (l | l) | _ <;> rfl

@[simp] theorem setLine_sub (l : Link) (x : Line) : (s.setLine l x).sub = s.sub := by rcases l with (l | l) | _ <;> rfl

@[simp] theorem setLine_mapIndex (l : Link) (x : Line) : (s.setLine l x).mapIndex = s.mapIndex := by rcases l with (l | l) | _ <;> rfl

@[simp] theorem setLine_sectIndex (l : Link) (x : Line) : (s.setLine l x).sectIndex = s.sectIndex := by rcases l with (l | l) | _ <;> rfl

@[simp] theorem setLine_offending (l : Link) (x : Line) : (s.setLine l x).offending = s.offending := by rcases l with (l | l) | _ <;> rfl

@[simp] theorem setLine_endorsed0 (l : Link) (x : Line) : (s.setLine l x).endorsed0 = s.endorsed0 := by rcases l with (l | l) | _ <;> rfl

@[simp] theorem setLine_endorsed1 (l : Link) (x : Line) : (s.setLine l x).endorsed1 = s.endorsed1 := by rcases l with (l | l) | _ <;> rfl

@[simp] theorem setLine_image (l : Link) (x : Line) : (s.setLine l x).image = s.image := by rcases l with (l | l) | _ <;> rfl

@[simp] theorem setLine_inForce (l : Link) (x : Line) : (s.setLine l x).inForce = s.inForce := by rcases l with (l | l) | _ <;> rfl

@[simp] theorem setLine_store (l : Link) (x : Line) : (s.setLine l x).store = s.store := by rcases l with (l | l) | _ <;> rfl

@[simp] theorem setLine_opTimer (l : Link) (x : Line) : (s.setLine l x).opTimer = s.opTimer := by rcases l with (l | l) | _ <;> rfl

@[simp] theorem setLine_softErrors (l : Link) (x : Line) : (s.setLine l x).softErrors = s.softErrors := by rcases l with (l | l) | _ <;> rfl

@[simp] theorem setLine_scrubTimer (l : Link) (x : Line) : (s.setLine l x).scrubTimer = s.scrubTimer := by rcases l with (l | l) | _ <;> rfl

@[simp] theorem setLine_scrubPass (l : Link) (x : Line) : (s.setLine l x).scrubPass = s.scrubPass := by rcases l with (l | l) | _ <;> rfl

@[simp] theorem setLine_clockTicks (l : Link) (x : Line) : (s.setLine l x).clockTicks = s.clockTicks := by rcases l with (l | l) | _ <;> rfl

@[simp] theorem setLine_firstCause (l : Link) (x : Line) : (s.setLine l x).firstCause = s.firstCause := by rcases l with (l | l) | _ <;> rfl

@[simp] theorem setLine_subCause (l : Link) (x : Line) : (s.setLine l x).subCause = s.subCause := by rcases l with (l | l) | _ <;> rfl

@[simp] theorem setLine_svkey (l : Link) (x : Line) : (s.setLine l x).svkey = s.svkey := by rcases l with (l | l) | _ <;> rfl

@[simp] theorem setLine_free (l : Link) (x : Line) : (s.setLine l x).free = s.free := by rcases l with (l | l) | _ <;> rfl

@[simp] theorem setLine_pending (l : Link) (x : Line) : (s.setLine l x).pending = s.pending := by rcases l with (l | l) | _ <;> rfl

/-! ### setHead -/

@[simp] theorem setHead_stepNo (d : DP) (h : Head) : (s.setHead d h).stepNo = s.stepNo := rfl

@[simp] theorem setHead_stamp (d : DP) (h : Head) : (s.setHead d h).stamp = s.stamp := rfl

@[simp] theorem setHead_drainDue (d : DP) (h : Head) : (s.setHead d h).drainDue = s.drainDue := rfl

@[simp] theorem setHead_bounding (d : DP) (h : Head) : (s.setHead d h).bounding = s.bounding := rfl

@[simp] theorem setHead_routing (d : DP) (h : Head) : (s.setHead d h).routing = s.routing := rfl

@[simp] theorem setHead_codes (d : DP) (h : Head) : (s.setHead d h).codes = s.codes := rfl

@[simp] theorem setHead_sects (d : DP) (h : Head) : (s.setHead d h).sects = s.sects := rfl

@[simp] theorem setHead_view (d : DP) (h : Head) : (s.setHead d h).view = s.view := rfl

@[simp] theorem setHead_periodCounter (d : DP) (h : Head) : (s.setHead d h).periodCounter = s.periodCounter := rfl

@[simp] theorem setHead_periodTimer (d : DP) (h : Head) : (s.setHead d h).periodTimer = s.periodTimer := rfl

@[simp] theorem setHead_records (d : DP) (h : Head) : (s.setHead d h).records = s.records := rfl

@[simp] theorem setHead_mode (d : DP) (h : Head) : (s.setHead d h).mode = s.mode := rfl

@[simp] theorem setHead_sub (d : DP) (h : Head) : (s.setHead d h).sub = s.sub := rfl

@[simp] theorem setHead_mapIndex (d : DP) (h : Head) : (s.setHead d h).mapIndex = s.mapIndex := rfl

@[simp] theorem setHead_sectIndex (d : DP) (h : Head) : (s.setHead d h).sectIndex = s.sectIndex := rfl

@[simp] theorem setHead_offending (d : DP) (h : Head) : (s.setHead d h).offending = s.offending := rfl

@[simp] theorem setHead_endorsed0 (d : DP) (h : Head) : (s.setHead d h).endorsed0 = s.endorsed0 := rfl

@[simp] theorem setHead_endorsed1 (d : DP) (h : Head) : (s.setHead d h).endorsed1 = s.endorsed1 := rfl

@[simp] theorem setHead_image (d : DP) (h : Head) : (s.setHead d h).image = s.image := rfl

@[simp] theorem setHead_inForce (d : DP) (h : Head) : (s.setHead d h).inForce = s.inForce := rfl

@[simp] theorem setHead_store (d : DP) (h : Head) : (s.setHead d h).store = s.store := rfl

@[simp] theorem setHead_opTimer (d : DP) (h : Head) : (s.setHead d h).opTimer = s.opTimer := rfl

@[simp] theorem setHead_softErrors (d : DP) (h : Head) : (s.setHead d h).softErrors = s.softErrors := rfl

@[simp] theorem setHead_scrubTimer (d : DP) (h : Head) : (s.setHead d h).scrubTimer = s.scrubTimer := rfl

@[simp] theorem setHead_scrubPass (d : DP) (h : Head) : (s.setHead d h).scrubPass = s.scrubPass := rfl

@[simp] theorem setHead_clockTicks (d : DP) (h : Head) : (s.setHead d h).clockTicks = s.clockTicks := rfl

@[simp] theorem setHead_firstCause (d : DP) (h : Head) : (s.setHead d h).firstCause = s.firstCause := rfl

@[simp] theorem setHead_subCause (d : DP) (h : Head) : (s.setHead d h).subCause = s.subCause := rfl

@[simp] theorem setHead_lc0 (d : DP) (h : Head) : (s.setHead d h).lc0 = s.lc0 := rfl

@[simp] theorem setHead_lc1 (d : DP) (h : Head) : (s.setHead d h).lc1 = s.lc1 := rfl

@[simp] theorem setHead_lcs (d : DP) (h : Head) : (s.setHead d h).lcs = s.lcs := rfl

@[simp] theorem setHead_svkey (d : DP) (h : Head) : (s.setHead d h).svkey = s.svkey := rfl

@[simp] theorem setHead_free (d : DP) (h : Head) : (s.setHead d h).free = s.free := rfl

@[simp] theorem setHead_pending (d : DP) (h : Head) : (s.setHead d h).pending = s.pending := rfl

/-! ### setSect -/

@[simp] theorem setSect_stepNo (k : SectNo) (x : Sect) : (s.setSect k x).stepNo = s.stepNo := rfl

@[simp] theorem setSect_stamp (k : SectNo) (x : Sect) : (s.setSect k x).stamp = s.stamp := rfl

@[simp] theorem setSect_drainDue (k : SectNo) (x : Sect) : (s.setSect k x).drainDue = s.drainDue := rfl

@[simp] theorem setSect_heads (k : SectNo) (x : Sect) : (s.setSect k x).heads = s.heads := rfl

@[simp] theorem setSect_bounding (k : SectNo) (x : Sect) : (s.setSect k x).bounding = s.bounding := rfl

@[simp] theorem setSect_routing (k : SectNo) (x : Sect) : (s.setSect k x).routing = s.routing := rfl

@[simp] theorem setSect_codes (k : SectNo) (x : Sect) : (s.setSect k x).codes = s.codes := rfl

@[simp] theorem setSect_view (k : SectNo) (x : Sect) : (s.setSect k x).view = s.view := rfl

@[simp] theorem setSect_periodCounter (k : SectNo) (x : Sect) : (s.setSect k x).periodCounter = s.periodCounter := rfl

@[simp] theorem setSect_periodTimer (k : SectNo) (x : Sect) : (s.setSect k x).periodTimer = s.periodTimer := rfl

@[simp] theorem setSect_records (k : SectNo) (x : Sect) : (s.setSect k x).records = s.records := rfl

@[simp] theorem setSect_mode (k : SectNo) (x : Sect) : (s.setSect k x).mode = s.mode := rfl

@[simp] theorem setSect_sub (k : SectNo) (x : Sect) : (s.setSect k x).sub = s.sub := rfl

@[simp] theorem setSect_mapIndex (k : SectNo) (x : Sect) : (s.setSect k x).mapIndex = s.mapIndex := rfl

@[simp] theorem setSect_sectIndex (k : SectNo) (x : Sect) : (s.setSect k x).sectIndex = s.sectIndex := rfl

@[simp] theorem setSect_offending (k : SectNo) (x : Sect) : (s.setSect k x).offending = s.offending := rfl

@[simp] theorem setSect_endorsed0 (k : SectNo) (x : Sect) : (s.setSect k x).endorsed0 = s.endorsed0 := rfl

@[simp] theorem setSect_endorsed1 (k : SectNo) (x : Sect) : (s.setSect k x).endorsed1 = s.endorsed1 := rfl

@[simp] theorem setSect_image (k : SectNo) (x : Sect) : (s.setSect k x).image = s.image := rfl

@[simp] theorem setSect_inForce (k : SectNo) (x : Sect) : (s.setSect k x).inForce = s.inForce := rfl

@[simp] theorem setSect_store (k : SectNo) (x : Sect) : (s.setSect k x).store = s.store := rfl

@[simp] theorem setSect_opTimer (k : SectNo) (x : Sect) : (s.setSect k x).opTimer = s.opTimer := rfl

@[simp] theorem setSect_softErrors (k : SectNo) (x : Sect) : (s.setSect k x).softErrors = s.softErrors := rfl

@[simp] theorem setSect_scrubTimer (k : SectNo) (x : Sect) : (s.setSect k x).scrubTimer = s.scrubTimer := rfl

@[simp] theorem setSect_scrubPass (k : SectNo) (x : Sect) : (s.setSect k x).scrubPass = s.scrubPass := rfl

@[simp] theorem setSect_clockTicks (k : SectNo) (x : Sect) : (s.setSect k x).clockTicks = s.clockTicks := rfl

@[simp] theorem setSect_firstCause (k : SectNo) (x : Sect) : (s.setSect k x).firstCause = s.firstCause := rfl

@[simp] theorem setSect_subCause (k : SectNo) (x : Sect) : (s.setSect k x).subCause = s.subCause := rfl

@[simp] theorem setSect_lc0 (k : SectNo) (x : Sect) : (s.setSect k x).lc0 = s.lc0 := rfl

@[simp] theorem setSect_lc1 (k : SectNo) (x : Sect) : (s.setSect k x).lc1 = s.lc1 := rfl

@[simp] theorem setSect_lcs (k : SectNo) (x : Sect) : (s.setSect k x).lcs = s.lcs := rfl

@[simp] theorem setSect_svkey (k : SectNo) (x : Sect) : (s.setSect k x).svkey = s.svkey := rfl

@[simp] theorem setSect_free (k : SectNo) (x : Sect) : (s.setSect k x).free = s.free := rfl

@[simp] theorem setSect_pending (k : SectNo) (x : Sect) : (s.setSect k x).pending = s.pending := rfl

/-! ### setRecord -/

@[simp] theorem setRecord_stepNo (k : SectNo) (r : Option PendingRecord) : (s.setRecord k r).stepNo = s.stepNo := rfl

@[simp] theorem setRecord_stamp (k : SectNo) (r : Option PendingRecord) : (s.setRecord k r).stamp = s.stamp := rfl

@[simp] theorem setRecord_drainDue (k : SectNo) (r : Option PendingRecord) : (s.setRecord k r).drainDue = s.drainDue := rfl

@[simp] theorem setRecord_heads (k : SectNo) (r : Option PendingRecord) : (s.setRecord k r).heads = s.heads := rfl

@[simp] theorem setRecord_bounding (k : SectNo) (r : Option PendingRecord) : (s.setRecord k r).bounding = s.bounding := rfl

@[simp] theorem setRecord_routing (k : SectNo) (r : Option PendingRecord) : (s.setRecord k r).routing = s.routing := rfl

@[simp] theorem setRecord_codes (k : SectNo) (r : Option PendingRecord) : (s.setRecord k r).codes = s.codes := rfl

@[simp] theorem setRecord_sects (k : SectNo) (r : Option PendingRecord) : (s.setRecord k r).sects = s.sects := rfl

@[simp] theorem setRecord_view (k : SectNo) (r : Option PendingRecord) : (s.setRecord k r).view = s.view := rfl

@[simp] theorem setRecord_periodCounter (k : SectNo) (r : Option PendingRecord) : (s.setRecord k r).periodCounter = s.periodCounter := rfl

@[simp] theorem setRecord_periodTimer (k : SectNo) (r : Option PendingRecord) : (s.setRecord k r).periodTimer = s.periodTimer := rfl

@[simp] theorem setRecord_mode (k : SectNo) (r : Option PendingRecord) : (s.setRecord k r).mode = s.mode := rfl

@[simp] theorem setRecord_sub (k : SectNo) (r : Option PendingRecord) : (s.setRecord k r).sub = s.sub := rfl

@[simp] theorem setRecord_mapIndex (k : SectNo) (r : Option PendingRecord) : (s.setRecord k r).mapIndex = s.mapIndex := rfl

@[simp] theorem setRecord_sectIndex (k : SectNo) (r : Option PendingRecord) : (s.setRecord k r).sectIndex = s.sectIndex := rfl

@[simp] theorem setRecord_offending (k : SectNo) (r : Option PendingRecord) : (s.setRecord k r).offending = s.offending := rfl

@[simp] theorem setRecord_endorsed0 (k : SectNo) (r : Option PendingRecord) : (s.setRecord k r).endorsed0 = s.endorsed0 := rfl

@[simp] theorem setRecord_endorsed1 (k : SectNo) (r : Option PendingRecord) : (s.setRecord k r).endorsed1 = s.endorsed1 := rfl

@[simp] theorem setRecord_image (k : SectNo) (r : Option PendingRecord) : (s.setRecord k r).image = s.image := rfl

@[simp] theorem setRecord_inForce (k : SectNo) (r : Option PendingRecord) : (s.setRecord k r).inForce = s.inForce := rfl

@[simp] theorem setRecord_store (k : SectNo) (r : Option PendingRecord) : (s.setRecord k r).store = s.store := rfl

@[simp] theorem setRecord_opTimer (k : SectNo) (r : Option PendingRecord) : (s.setRecord k r).opTimer = s.opTimer := rfl

@[simp] theorem setRecord_softErrors (k : SectNo) (r : Option PendingRecord) : (s.setRecord k r).softErrors = s.softErrors := rfl

@[simp] theorem setRecord_scrubTimer (k : SectNo) (r : Option PendingRecord) : (s.setRecord k r).scrubTimer = s.scrubTimer := rfl

@[simp] theorem setRecord_scrubPass (k : SectNo) (r : Option PendingRecord) : (s.setRecord k r).scrubPass = s.scrubPass := rfl

@[simp] theorem setRecord_clockTicks (k : SectNo) (r : Option PendingRecord) : (s.setRecord k r).clockTicks = s.clockTicks := rfl

@[simp] theorem setRecord_firstCause (k : SectNo) (r : Option PendingRecord) : (s.setRecord k r).firstCause = s.firstCause := rfl

@[simp] theorem setRecord_subCause (k : SectNo) (r : Option PendingRecord) : (s.setRecord k r).subCause = s.subCause := rfl

@[simp] theorem setRecord_lc0 (k : SectNo) (r : Option PendingRecord) : (s.setRecord k r).lc0 = s.lc0 := rfl

@[simp] theorem setRecord_lc1 (k : SectNo) (r : Option PendingRecord) : (s.setRecord k r).lc1 = s.lc1 := rfl

@[simp] theorem setRecord_lcs (k : SectNo) (r : Option PendingRecord) : (s.setRecord k r).lcs = s.lcs := rfl

@[simp] theorem setRecord_svkey (k : SectNo) (r : Option PendingRecord) : (s.setRecord k r).svkey = s.svkey := rfl

@[simp] theorem setRecord_free (k : SectNo) (r : Option PendingRecord) : (s.setRecord k r).free = s.free := rfl

@[simp] theorem setRecord_pending (k : SectNo) (r : Option PendingRecord) : (s.setRecord k r).pending = s.pending := rfl

/-! ### setEndorsed -/

@[simp] theorem setEndorsed_stepNo (l : SupLink) (b : Bool) : (s.setEndorsed l b).stepNo = s.stepNo := by cases l <;> rfl

@[simp] theorem setEndorsed_stamp (l : SupLink) (b : Bool) : (s.setEndorsed l b).stamp = s.stamp := by cases l <;> rfl

@[simp] theorem setEndorsed_drainDue (l : SupLink) (b : Bool) : (s.setEndorsed l b).drainDue = s.drainDue := by cases l <;> rfl

@[simp] theorem setEndorsed_heads (l : SupLink) (b : Bool) : (s.setEndorsed l b).heads = s.heads := by cases l <;> rfl

@[simp] theorem setEndorsed_bounding (l : SupLink) (b : Bool) : (s.setEndorsed l b).bounding = s.bounding := by cases l <;> rfl

@[simp] theorem setEndorsed_routing (l : SupLink) (b : Bool) : (s.setEndorsed l b).routing = s.routing := by cases l <;> rfl

@[simp] theorem setEndorsed_codes (l : SupLink) (b : Bool) : (s.setEndorsed l b).codes = s.codes := by cases l <;> rfl

@[simp] theorem setEndorsed_sects (l : SupLink) (b : Bool) : (s.setEndorsed l b).sects = s.sects := by cases l <;> rfl

@[simp] theorem setEndorsed_view (l : SupLink) (b : Bool) : (s.setEndorsed l b).view = s.view := by cases l <;> rfl

@[simp] theorem setEndorsed_periodCounter (l : SupLink) (b : Bool) : (s.setEndorsed l b).periodCounter = s.periodCounter := by cases l <;> rfl

@[simp] theorem setEndorsed_periodTimer (l : SupLink) (b : Bool) : (s.setEndorsed l b).periodTimer = s.periodTimer := by cases l <;> rfl

@[simp] theorem setEndorsed_records (l : SupLink) (b : Bool) : (s.setEndorsed l b).records = s.records := by cases l <;> rfl

@[simp] theorem setEndorsed_mode (l : SupLink) (b : Bool) : (s.setEndorsed l b).mode = s.mode := by cases l <;> rfl

@[simp] theorem setEndorsed_sub (l : SupLink) (b : Bool) : (s.setEndorsed l b).sub = s.sub := by cases l <;> rfl

@[simp] theorem setEndorsed_mapIndex (l : SupLink) (b : Bool) : (s.setEndorsed l b).mapIndex = s.mapIndex := by cases l <;> rfl

@[simp] theorem setEndorsed_sectIndex (l : SupLink) (b : Bool) : (s.setEndorsed l b).sectIndex = s.sectIndex := by cases l <;> rfl

@[simp] theorem setEndorsed_offending (l : SupLink) (b : Bool) : (s.setEndorsed l b).offending = s.offending := by cases l <;> rfl

@[simp] theorem setEndorsed_image (l : SupLink) (b : Bool) : (s.setEndorsed l b).image = s.image := by cases l <;> rfl

@[simp] theorem setEndorsed_inForce (l : SupLink) (b : Bool) : (s.setEndorsed l b).inForce = s.inForce := by cases l <;> rfl

@[simp] theorem setEndorsed_store (l : SupLink) (b : Bool) : (s.setEndorsed l b).store = s.store := by cases l <;> rfl

@[simp] theorem setEndorsed_opTimer (l : SupLink) (b : Bool) : (s.setEndorsed l b).opTimer = s.opTimer := by cases l <;> rfl

@[simp] theorem setEndorsed_softErrors (l : SupLink) (b : Bool) : (s.setEndorsed l b).softErrors = s.softErrors := by cases l <;> rfl

@[simp] theorem setEndorsed_scrubTimer (l : SupLink) (b : Bool) : (s.setEndorsed l b).scrubTimer = s.scrubTimer := by cases l <;> rfl

@[simp] theorem setEndorsed_scrubPass (l : SupLink) (b : Bool) : (s.setEndorsed l b).scrubPass = s.scrubPass := by cases l <;> rfl

@[simp] theorem setEndorsed_clockTicks (l : SupLink) (b : Bool) : (s.setEndorsed l b).clockTicks = s.clockTicks := by cases l <;> rfl

@[simp] theorem setEndorsed_firstCause (l : SupLink) (b : Bool) : (s.setEndorsed l b).firstCause = s.firstCause := by cases l <;> rfl

@[simp] theorem setEndorsed_subCause (l : SupLink) (b : Bool) : (s.setEndorsed l b).subCause = s.subCause := by cases l <;> rfl

@[simp] theorem setEndorsed_lc0 (l : SupLink) (b : Bool) : (s.setEndorsed l b).lc0 = s.lc0 := by cases l <;> rfl

@[simp] theorem setEndorsed_lc1 (l : SupLink) (b : Bool) : (s.setEndorsed l b).lc1 = s.lc1 := by cases l <;> rfl

@[simp] theorem setEndorsed_lcs (l : SupLink) (b : Bool) : (s.setEndorsed l b).lcs = s.lcs := by cases l <;> rfl

@[simp] theorem setEndorsed_svkey (l : SupLink) (b : Bool) : (s.setEndorsed l b).svkey = s.svkey := by cases l <;> rfl

@[simp] theorem setEndorsed_free (l : SupLink) (b : Bool) : (s.setEndorsed l b).free = s.free := by cases l <;> rfl

@[simp] theorem setEndorsed_pending (l : SupLink) (b : Bool) : (s.setEndorsed l b).pending = s.pending := by cases l <;> rfl

/-! ### mapHeads -/

@[simp] theorem mapHeads_stepNo (f : Head → Head) : (s.mapHeads f).stepNo = s.stepNo := by simp only [State.mapHeads]

@[simp] theorem mapHeads_stamp (f : Head → Head) : (s.mapHeads f).stamp = s.stamp := by simp only [State.mapHeads]

@[simp] theorem mapHeads_drainDue (f : Head → Head) : (s.mapHeads f).drainDue = s.drainDue := by simp only [State.mapHeads]

@[simp] theorem mapHeads_bounding (f : Head → Head) : (s.mapHeads f).bounding = s.bounding := by simp only [State.mapHeads]

@[simp] theorem mapHeads_routing (f : Head → Head) : (s.mapHeads f).routing = s.routing := by simp only [State.mapHeads]

@[simp] theorem mapHeads_codes (f : Head → Head) : (s.mapHeads f).codes = s.codes := by simp only [State.mapHeads]

@[simp] theorem mapHeads_sects (f : Head → Head) : (s.mapHeads f).sects = s.sects := by simp only [State.mapHeads]

@[simp] theorem mapHeads_view (f : Head → Head) : (s.mapHeads f).view = s.view := by simp only [State.mapHeads]

@[simp] theorem mapHeads_periodCounter (f : Head → Head) : (s.mapHeads f).periodCounter = s.periodCounter := by simp only [State.mapHeads]

@[simp] theorem mapHeads_periodTimer (f : Head → Head) : (s.mapHeads f).periodTimer = s.periodTimer := by simp only [State.mapHeads]

@[simp] theorem mapHeads_records (f : Head → Head) : (s.mapHeads f).records = s.records := by simp only [State.mapHeads]

@[simp] theorem mapHeads_mode (f : Head → Head) : (s.mapHeads f).mode = s.mode := by simp only [State.mapHeads]

@[simp] theorem mapHeads_sub (f : Head → Head) : (s.mapHeads f).sub = s.sub := by simp only [State.mapHeads]

@[simp] theorem mapHeads_mapIndex (f : Head → Head) : (s.mapHeads f).mapIndex = s.mapIndex := by simp only [State.mapHeads]

@[simp] theorem mapHeads_sectIndex (f : Head → Head) : (s.mapHeads f).sectIndex = s.sectIndex := by simp only [State.mapHeads]

@[simp] theorem mapHeads_offending (f : Head → Head) : (s.mapHeads f).offending = s.offending := by simp only [State.mapHeads]

@[simp] theorem mapHeads_endorsed0 (f : Head → Head) : (s.mapHeads f).endorsed0 = s.endorsed0 := by simp only [State.mapHeads]

@[simp] theorem mapHeads_endorsed1 (f : Head → Head) : (s.mapHeads f).endorsed1 = s.endorsed1 := by simp only [State.mapHeads]

@[simp] theorem mapHeads_image (f : Head → Head) : (s.mapHeads f).image = s.image := by simp only [State.mapHeads]

@[simp] theorem mapHeads_inForce (f : Head → Head) : (s.mapHeads f).inForce = s.inForce := by simp only [State.mapHeads]

@[simp] theorem mapHeads_store (f : Head → Head) : (s.mapHeads f).store = s.store := by simp only [State.mapHeads]

@[simp] theorem mapHeads_opTimer (f : Head → Head) : (s.mapHeads f).opTimer = s.opTimer := by simp only [State.mapHeads]

@[simp] theorem mapHeads_softErrors (f : Head → Head) : (s.mapHeads f).softErrors = s.softErrors := by simp only [State.mapHeads]

@[simp] theorem mapHeads_scrubTimer (f : Head → Head) : (s.mapHeads f).scrubTimer = s.scrubTimer := by simp only [State.mapHeads]

@[simp] theorem mapHeads_scrubPass (f : Head → Head) : (s.mapHeads f).scrubPass = s.scrubPass := by simp only [State.mapHeads]

@[simp] theorem mapHeads_clockTicks (f : Head → Head) : (s.mapHeads f).clockTicks = s.clockTicks := by simp only [State.mapHeads]

@[simp] theorem mapHeads_firstCause (f : Head → Head) : (s.mapHeads f).firstCause = s.firstCause := by simp only [State.mapHeads]

@[simp] theorem mapHeads_subCause (f : Head → Head) : (s.mapHeads f).subCause = s.subCause := by simp only [State.mapHeads]

@[simp] theorem mapHeads_lc0 (f : Head → Head) : (s.mapHeads f).lc0 = s.lc0 := by simp only [State.mapHeads]

@[simp] theorem mapHeads_lc1 (f : Head → Head) : (s.mapHeads f).lc1 = s.lc1 := by simp only [State.mapHeads]

@[simp] theorem mapHeads_lcs (f : Head → Head) : (s.mapHeads f).lcs = s.lcs := by simp only [State.mapHeads]

@[simp] theorem mapHeads_svkey (f : Head → Head) : (s.mapHeads f).svkey = s.svkey := by simp only [State.mapHeads]

@[simp] theorem mapHeads_free (f : Head → Head) : (s.mapHeads f).free = s.free := by simp only [State.mapHeads]

@[simp] theorem mapHeads_pending (f : Head → Head) : (s.mapHeads f).pending = s.pending := by simp only [State.mapHeads]

/-! ### Get after set -/

@[simp] theorem sup_setSup_same (l : SupLink) (x : Sup) : (s.setSup l x).sup l = x := by cases l <;> rfl

@[simp] theorem sup_setSup_other (l : SupLink) (x : Sup) : (s.setSup l x).sup l.other = s.sup l.other := by cases l <;> rfl

theorem sup_setSup_ne (l m : SupLink) (x : Sup) (h : m ≠ l) : (s.setSup l x).sup m = s.sup m := by
  cases l <;> cases m <;> first | rfl | exact absurd rfl h

@[simp] theorem setSup_sup (l : SupLink) : s.setSup l (s.sup l) = s := by cases l <;> rfl

@[simp] theorem setSup_setSup (l : SupLink) (x y : Sup) : (s.setSup l x).setSup l y = s.setSup l y := by cases l <;> rfl

@[simp] theorem line_setLine_same (l : Link) (x : Line) : (s.setLine l x).line l = x := by
  rcases l with (l | l) | _ <;> rfl

theorem line_setLine_ne (l m : Link) (x : Line) (h : m ≠ l) : (s.setLine l x).line m = s.line m := by
  rcases l with (l | l) | _ <;> rcases m with (m | m) | _ <;> first | rfl | exact absurd rfl h

@[simp] theorem endorsed_setEndorsed_same (l : SupLink) (b : Bool) : (s.setEndorsed l b).endorsed l = b := by
  cases l <;> rfl

@[simp] theorem endorsed_setEndorsed_other (l : SupLink) (b : Bool) :
    (s.setEndorsed l b).endorsed l.other = s.endorsed l.other := by cases l <;> rfl

@[simp] theorem heads_setHead_same (d : DP) (h : Head) : (s.setHead d h).heads[d] = h := by simp [State.setHead]

theorem heads_setHead_ne (d e : DP) (h : Head) (n : e ≠ d) : (s.setHead d h).heads[e] = s.heads[e] := by
  simp only [State.setHead, Fin.getElem_fin]
  exact Vector.getElem_set_ne _ _ (fun c => n (Fin.ext c.symm))

@[simp] theorem sects_setSect_same (k : SectNo) (x : Sect) : (s.setSect k x).sects[k] = x := by simp [State.setSect]

theorem sects_setSect_ne (k j : SectNo) (x : Sect) (n : j ≠ k) : (s.setSect k x).sects[j] = s.sects[j] := by
  simp only [State.setSect, Fin.getElem_fin]
  exact Vector.getElem_set_ne _ _ (fun c => n (Fin.ext c.symm))

@[simp] theorem records_setRecord_same (k : SectNo) (r : Option PendingRecord) : (s.setRecord k r).records[k] = r := by
  simp [State.setRecord]

theorem records_setRecord_ne (k j : SectNo) (r : Option PendingRecord) (n : j ≠ k) :
    (s.setRecord k r).records[j] = s.records[j] := by
  simp only [State.setRecord, Fin.getElem_fin]
  exact Vector.getElem_set_ne _ _ (fun c => n (Fin.ext c.symm))

@[simp] theorem heads_mapHeads (f : Head → Head) (d : DP) : (s.mapHeads f).heads[d] = f s.heads[d] := by
  simp [State.mapHeads]

end Sys2Proof.Machine
end

