-- ==== Sys2Proof/Laws/Ops.lean ====
section
/-! SUPPORT. What each shared operation does, said once and whole: requests for notices are appended to what each supervisory controller has been
asked for, records are removed, section records change. Proofs cite these and leave the operations folded. -/

namespace Sys2Proof.Machine

/-! ### Requests for notices -/

/-- Each supervisory controller has been asked for more notices. -/
def State.asks (s : State) (a : SupLink → List Notice) : State :=
  { s with
    lc0 := { s.lc0 with asked := s.lc0.asked ++ a .sl0 }
    lc1 := { s.lc1 with asked := s.lc1.asked ++ a .sl1 } }

theorem asks_nil (s : State) : s.asks (fun _ => []) = s := by simp [State.asks]

theorem asks_asks (s : State) (a b : SupLink → List Notice) : (s.asks a).asks b = s.asks fun l => a l ++ b l := by
  simp [State.asks]

@[simp] theorem sup_asks (s : State) (a : SupLink → List Notice) (l : SupLink) :
    (s.asks a).sup l = { s.sup l with asked := (s.sup l).asked ++ a l } := by cases l <;> rfl

/-- Asking one controller for one notice. -/
theorem ask_eq (s : State) (n : Notice) (l : SupLink) : s.ask n l = s.asks fun m => if m = l then [n] else [] := by
  cases l <;> simp [State.ask, State.asks, State.setSup, State.sup]

/-- Asking each controller of a set for one notice. -/
theorem askEach_eq (s : State) (n : Notice) (on : SupLink → Bool) :
    s.askEach n on = s.asks fun m => if on m then [n] else [] := by
  cases h0 : on .sl0 <;> cases h1 : on .sl1 <;>
    simp [State.askEach, h0, h1, ask_eq, State.asks]

/-- What the removal of a record asks a controller for (R118). -/
def lapse (r : Option PendingRecord) (l : SupLink) : List Notice :=
  match r with
  | none => []
  | some r => if l = r.opener then [.concurLapsed] else []

@[simp] theorem lapse_none (l : SupLink) : lapse none l = [] := rfl

/-- The removal of a section's record (R114 to R118). -/
theorem dropRecord_eq (s : State) (k : SectNo) :
    s.dropRecord k = (s.setRecord k none).asks (lapse s.records[k]) := by
  unfold State.dropRecord
  cases h : s.records[k] with
  | none =>
    have : s.setRecord k none = s := by
      have h2 : s.records.set k none = s.records := by rw [← h]; simp
      unfold State.setRecord; rw [h2]
    simp [this, State.asks]
  | some r =>
    simp only [ask_eq]
    rfl

/-! ### Changes of section records -/

/-- The report of one section's change, if its state code changed while it is used (R85, R86, R116). -/
theorem reportChange_eq (old : Vector Sect 24) (s : State) (k : SectNo) :
    State.reportChange old s k =
      if s.used k && decide (s.sects[k].state ≠ old[k].state) then
        (s.setRecord k none).asks fun m => lapse s.records[k] m ++ if s.supervises m k then [.change] else []
      else s := by
  unfold State.reportChange
  split
  · rw [askEach_eq, dropRecord_eq, asks_asks]
  · rfl

/-- Whether the report of a section's change is made (R85). -/
def State.codeChanged (s : State) (old : Vector Sect 24) (k : SectNo) : Bool :=
  s.used k && decide (s.sects[k].state ≠ old[k].state)

/-- What the report of a section's change asks a controller for (R86, R118). -/
def State.changeAsks (s : State) (old : Vector Sect 24) (l : SupLink) (k : SectNo) : List Notice :=
  if s.codeChanged old k then lapse s.records[k] l ++ if s.supervises l k then [.change] else [] else []

/-- The records after the reports over a list of sections: those of the changed ones are gone (R116). -/
def State.recordsKept (s : State) (old : Vector Sect 24) (ks : List SectNo) : Vector (Option PendingRecord) 24 :=
  tabulate fun j => if j ∈ ks ∧ s.codeChanged old j = true then none else s.records[j]

theorem recordsKept_get (s : State) (old : Vector Sect 24) (ks : List SectNo) (j : SectNo) :
    (s.recordsKept old ks)[j] = if j ∈ ks ∧ s.codeChanged old j = true then none else s.records[j] := by
  simp [State.recordsKept]

theorem foldl_reportChange (old : Vector Sect 24) (ks : List SectNo) (h : ks.Nodup) (s : State) :
    ks.foldl (State.reportChange old) s =
      { s with records := s.recordsKept old ks }.asks fun l => ks.flatMap (s.changeAsks old l) := by
  induction ks generalizing s with
  | nil =>
    have e : s.recordsKept old [] = s.records := by
      apply Vector.ext
      intro j hj
      exact (recordsKept_get s old [] ⟨j, hj⟩).trans (by simp)
    simp only [List.foldl_nil, List.flatMap_nil, e, asks_nil]
  | cons k ks ih =>
    have hk : k ∉ ks := (List.nodup_cons.mp h).1
    rw [List.foldl_cons, ih (List.nodup_cons.mp h).2, reportChange_eq]
    by_cases c : s.codeChanged old k = true
    · have c' := c
      unfold State.codeChanged at c'
      rw [if_pos c']
      generalize ht : ((s.setRecord k none).asks fun m => lapse s.records[k] m ++ if s.supervises m k then [.change] else []) = t
      have hc : ∀ j, t.codeChanged old j = s.codeChanged old j := by intro j; subst ht; rfl
      have hr : ∀ j, j ≠ k → t.records[j] = s.records[j] := by
        intro j hj; subst ht; exact records_setRecord_ne s k j none hj
      have hkk : t.records[k] = none := by subst ht; exact records_setRecord_same s k none
      have e : t.recordsKept old ks = s.recordsKept old (k :: ks) := by
        apply Vector.ext
        intro j hj
        refine (recordsKept_get t old ks ⟨j, hj⟩).trans (Eq.trans ?_ (recordsKept_get s old (k :: ks) ⟨j, hj⟩).symm)
        by_cases hjk : (⟨j, hj⟩ : SectNo) = k
        · rw [hjk]; simp [hk, hkk, c]
        · simp [hjk, hc, hr _ hjk]
      have ha : ∀ l, ks.flatMap (t.changeAsks old l) = ks.flatMap (s.changeAsks old l) := by
        intro l
        apply List.flatMap_congr
        intro j hj
        have hjk : j ≠ k := fun e => hk (e ▸ hj)
        unfold State.changeAsks
        rw [hc, hr j hjk]
        subst ht; rfl
      simp only [ha, e]
      subst ht
      simp only [List.flatMap_cons, State.asks, State.changeAsks, c, List.append_assoc, if_true, State.setRecord]
    · have c' := c
      unfold State.codeChanged at c'
      rw [if_neg c']
      have e : s.recordsKept old ks = s.recordsKept old (k :: ks) := by
        apply Vector.ext
        intro j hj
        refine (recordsKept_get s old ks ⟨j, hj⟩).trans (Eq.trans ?_ (recordsKept_get s old (k :: ks) ⟨j, hj⟩).symm)
        by_cases hjk : (⟨j, hj⟩ : SectNo) = k
        · rw [hjk]; simp [hk, c]
        · simp [hjk]
      have ha : ∀ l, s.changeAsks old l k = [] := by intro l; unfold State.changeAsks; rw [if_neg c]
      simp only [List.flatMap_cons, ha, List.nil_append, e]

/-- The section records changed one by one. -/
def State.sectsBy (s : State) (f : SectNo → Sect → Sect) : Vector Sect 24 := tabulate fun k => f k s.sects[k]

@[simp] theorem sectsBy_get (s : State) (f : SectNo → Sect → Sect) (k : SectNo) : (s.sectsBy f)[k] = f k s.sects[k] := by
  simp [State.sectsBy]

/-- Everything that a change of section records does (R85, R86, R116). -/
theorem changeSects_eq (s : State) (f : SectNo → Sect → Sect) :
    s.changeSects f =
      { s with
        sects := s.sectsBy f
        records := { s with sects := s.sectsBy f }.recordsKept s.sects (List.finRange 24) }.asks
        fun l => (List.finRange 24).flatMap ({ s with sects := s.sectsBy f }.changeAsks s.sects l) := by
  unfold State.changeSects
  exact foldl_reportChange s.sects (List.finRange 24) (List.nodup_finRange 24) { s with sects := s.sectsBy f }

/-- A change of section records, for what does not depend on the notices asked for. -/
theorem changeSects_frame (s : State) (f : SectNo → Sect → Sect) :
    ∃ v a, s.changeSects f = { s with sects := s.sectsBy f, records := v }.asks a ∧
      ∀ k : SectNo, v[k] = if s.used k = true ∧ (f k s.sects[k]).state ≠ s.sects[k].state then none else s.records[k] := by
  refine ⟨_, _, changeSects_eq s f, fun k => ?_⟩
  rw [recordsKept_get]
  have hu : State.used { s with sects := s.sectsBy f } k = s.used k := by simp only [State.used]
  have hg : (s.sectsBy f)[k] = f k s.sects[k] := sectsBy_get s f k
  simp only [State.codeChanged, hu, List.mem_finRange, true_and, Bool.and_eq_true, decide_eq_true_eq, hg]

/-- No record is left (R117). -/
def noRecords : Vector (Option PendingRecord) 24 := Vector.replicate 24 none

@[simp] theorem noRecords_get (k : SectNo) : noRecords[k] = none := by simp [noRecords]

theorem foldl_dropRecord (ks : List SectNo) (h : ks.Nodup) (s : State) :
    ∃ v, ks.foldl State.dropRecord s = { s with records := v }.asks (fun l => ks.flatMap fun k => lapse s.records[k] l) ∧
      ∀ k : SectNo, v[k] = if k ∈ ks then none else s.records[k] := by
  induction ks generalizing s with
  | nil => exact ⟨s.records, by simp [asks_nil], fun k => by simp⟩
  | cons k ks ih =>
    have hk : k ∉ ks := (List.nodup_cons.mp h).1
    obtain ⟨v, hv, hg⟩ := ih (List.nodup_cons.mp h).2 (s.dropRecord k)
    have hr : ∀ j, j ≠ k → (s.dropRecord k).records[j] = s.records[j] := by
      intro j hj; rw [dropRecord_eq]; exact records_setRecord_ne s k j none hj
    have hkk : (s.dropRecord k).records[k] = none := by rw [dropRecord_eq]; exact records_setRecord_same s k none
    refine ⟨v, ?_, fun j => ?_⟩
    · have ha : ∀ l, (ks.flatMap fun j => lapse (s.dropRecord k).records[j] l) = ks.flatMap fun j => lapse s.records[j] l := by
        intro l
        apply List.flatMap_congr
        intro j hj
        rw [hr j fun e => hk (e ▸ hj)]
      rw [List.foldl_cons, hv]
      simp only [ha, List.flatMap_cons]
      rw [dropRecord_eq]
      simp only [State.asks, State.setRecord, List.append_assoc]
    · rw [hg]
      by_cases hjk : j = k
      · rw [hjk]; simp [hk, hkk]
      · simp [hjk, hr j hjk]

/-- Everything that the removal of every record does (R117). -/
theorem dropRecords_eq (s : State) :
    s.dropRecords = { s with records := noRecords }.asks fun l => (List.finRange 24).flatMap fun k => lapse s.records[k] l := by
  obtain ⟨v, hv, hg⟩ := foldl_dropRecord (List.finRange 24) (List.nodup_finRange 24) s
  have e : v = noRecords := by
    apply Vector.ext
    intro j hj
    exact (hg ⟨j, hj⟩).trans ((if_pos (List.mem_finRange _)).trans (noRecords_get ⟨j, hj⟩).symm)
  unfold State.dropRecords
  rw [hv, e]

/-! ### Notices set at once -/

/-- Setting a notice at once on each link of a set. -/
theorem setNoticeEach_eq (s : State) (n : Notice) (on : SupLink → Bool) :
    s.setNoticeEach n on =
      { s with
        lc0 := if on .sl0 then s.lc0.setNotice n else s.lc0
        lc1 := if on .sl1 then s.lc1.setNotice n else s.lc1 } := by
  unfold State.setNoticeEach
  cases on .sl0 <;> cases on .sl1 <;> rfl

/-! ### Requests -/

/-- A supervisory request that is free to be taken is answered (R165, R166). -/
theorem takeSup_ready (s : State) (l : SupLink) (r : SupRequest) (owner : State → State × Answer)
    (h : (s.sup l).handed = some r ∨ ((s.sup l).handed = none ∧ (s.sup l).line.slot = none)) :
    s.takeSup l r owner =
      let o := owner (s.setSup l { s.sup l with handed := none })
      o.1.respond (.sup l) (supKind r) o.2 := by
  unfold State.takeSup
  rcases h with h | ⟨h, h'⟩
  · rw [if_pos h]
  · have e : s.setSup l { s.sup l with handed := none } = s := by rw [← h]; exact setSup_sup s l
    rw [if_neg (by simp [h]), if_neg (by simp [h, h']), e]

/-- A supervisory request that finds another handed on, or the slot occupied, is not acted on (R166). -/
theorem takeSup_overrun (s : State) (l : SupLink) (r : SupRequest) (owner : State → State × Answer)
    (h : (s.sup l).handed ≠ some r) (o : (s.sup l).handed.isSome = true ∨ (s.sup l).line.slot.isSome = true) :
    s.takeSup l r owner = s.overrunOn (.sup l) := by
  unfold State.takeSup
  rw [if_neg h, if_pos (by simpa using o)]

/-- A service request that is free to be taken is answered (R165, R166). -/
theorem takeSvc_ready (s : State) (r : SvcRequest) (owner : State → State × Answer)
    (h : s.lcs.handed = some r ∨ (s.lcs.handed = none ∧ s.lcs.line.slot = none)) :
    s.takeSvc r owner =
      let o := owner { s with lcs := { s.lcs with handed := none } }
      o.1.respond .svl (svcKind r) o.2 := by
  unfold State.takeSvc
  rcases h with h | ⟨h, h'⟩
  · rw [if_pos h]
  · have e : ({ s.lcs with handed := none } : Svc) = s.lcs := by
      rw [← h]
    rw [if_neg (by simp [h]), if_neg (by simp [h, h'])]
    simp only [e]

/-- A service request that finds another handed on, or the slot occupied, is not acted on (R166). -/
theorem takeSvc_overrun (s : State) (r : SvcRequest) (owner : State → State × Answer)
    (h : s.lcs.handed ≠ some r) (o : s.lcs.handed.isSome = true ∨ s.lcs.line.slot.isSome = true) :
    s.takeSvc r owner = s.overrunOn .svl := by
  unfold State.takeSvc
  rw [if_neg h, if_pos (by simpa using o)]

end Sys2Proof.Machine
end

