-- ==== Sys2Proof/Laws/Blocks.lean ====
section
/-! SUPPORT. What each shared operation of the blocks does, said once and whole: faults of heads, causes on sections, resets performed, the
halt, notices and attention lines, the key. Proofs cite these and leave the operations folded. -/

namespace Sys2Proof.Machine

/-! ### Heads -/

/-- The entry into FAULT (R16, R23). -/
theorem enterFault_eq (s : State) (d : DP) (c : FaultCause) :
    s.enterFault d c =
      (s.setHead d { s.heads[d] with
        state := .fault
        lastCause := c
        passageStart := none
        lastAxle := none
        recovery := 0
        outbox := s.heads[d].outbox ++ [.classChange .fault] }).asks fun l =>
          if s.routing[d].has l then [.headFault] else [] := by
  unfold State.enterFault
  exact askEach_eq _ _ _

theorem takeFaultInput_of_inactive (s : State) (d : DP) (h : s.heads[d].faultIn = false) : s.takeFaultInput d = s := by
  unfold State.takeFaultInput
  simp only [h, Bool.and_false, Bool.false_eq_true, if_false]

theorem takeFaultInput_of_held (s : State) (d : DP) (h : s.mode.running = false) : s.takeFaultInput d = s := by
  unfold State.takeFaultInput
  simp [h]

theorem takeGlitch_of_none (s : State) (d : DP) (h : s.heads[d].glitches = 0) : s.takeGlitch d = s := by
  unfold State.takeGlitch
  exact if_pos h

theorem takeChange_of_none (s : State) (d : DP) (h1 : s.heads[d].changed1 s.qual = false)
    (h2 : s.heads[d].changed2 s.qual = false) : s.takeChange d = s := by
  unfold State.takeChange
  simp only [h1, h2, Bool.or_false, Bool.false_eq_true, if_false]

/-- A channel that has changed is not one that has glitched (R3). -/
theorem not_glitch1_of_changed1 (h : Head) (qual : Nat) (c : h.changed1 qual = true) : h.glitch1 = false := by
  unfold Head.changed1 at c
  unfold Head.glitch1
  revert c
  cases h.raw1 <;> cases h.q1 <;> simp

theorem not_glitch2_of_changed2 (h : Head) (qual : Nat) (c : h.changed2 qual = true) : h.glitch2 = false := by
  unfold Head.changed2 at c
  unfold Head.glitch2
  revert c
  cases h.raw2 <;> cases h.q2 <;> simp

/-! ### Sections -/

theorem raise_of_disturbed (c : Cause) (dp : Option DP) (x : Sect) (h : x.state = .disturbed) : x.raise c dp = x := by
  unfold Sect.raise
  exact if_pos h

theorem raise_of_not_disturbed (c : Cause) (dp : Option DP) (x : Sect) (h : x.state ≠ .disturbed) :
    x.raise c dp = { x with state := .disturbed, cause := c, causeDP := dp, settle := none } := by
  unfold Sect.raise
  exact if_neg h

/-- Every raised section is DISTURBED with its count kept (R63). -/
theorem raise_state (c : Cause) (dp : Option DP) (x : Sect) :
    (x.raise c dp).state = .disturbed ∧ (x.raise c dp).count = x.count := by
  by_cases h : x.state = .disturbed
  · rw [raise_of_disturbed c dp x h]; exact ⟨h, rfl⟩
  · rw [raise_of_not_disturbed c dp x h]; exact ⟨rfl, rfl⟩

/-- A cause raised on sections, for what does not depend on the notices asked for (R63, R85). -/
theorem raiseOn_frame (s : State) (c : Cause) (dp : Option DP) (on : SectNo → Bool) :
    ∃ v a, s.raiseOn c dp on =
        { s with sects := s.sectsBy fun k x => if s.used k && on k then x.raise c dp else x, records := v }.asks a ∧
      ∀ k : SectNo, v[k] = if s.used k = true ∧
          (if s.used k && on k then s.sects[k].raise c dp else s.sects[k]).state ≠ s.sects[k].state
        then none else s.records[k] :=
  changeSects_frame s fun k x => if s.used k && on k then x.raise c dp else x

/-- A reset performed (R81 to R83). -/
theorem performReset_eq (s : State) (kind : ResetKind) (k : SectNo) :
    s.performReset kind k =
      (s.setSect k
        (match kind with
        | .direct => { s.sects[k] with
            state := .settling, count := 0, cause := .none, causeDP := none, settle := startSettle (s.viewFree k) }
        | .prep => { s.sects[k] with
            state := .restoring, count := 0, cause := .none, causeDP := none, settle := none })).asks
        fun l => if s.supervises l k then [.change] else [] := by
  unfold State.performReset
  cases kind <;> exact askEach_eq _ _ _

/-! ### The halt -/

/-- The entry into HALTED (R135, R138). -/
theorem enterHalted_eq (s : State) (c : HaltCause) :
    s.enterHalted c =
      let told := fun (l : SupLink) (x : Sup) =>
        let y := ({ x with asked := x.asked ++ (List.finRange 24).flatMap fun k => lapse s.records[k] l } : Sup).setNotice .halt
        if ((List.finRange 24).any fun k => s.supervises l k && decide (s.sects[k].state ≠ .disturbed)) = true
        then y.setNotice .change else y
      { s with
        mode := .halted
        firstCause := some c
        records := noRecords
        sects := tabulate fun k => if s.used k then s.sects[k].raise .halt none else s.sects[k]
        lc0 := told .sl0 s.lc0
        lc1 := told .sl1 s.lc1 } := by
  unfold State.enterHalted
  simp only [dropRecords_eq, setNoticeEach_eq, State.asks, if_true]

theorem raiseHalt_of_counting (s : State) (c : HaltCause) (h : s.mode = .counting) : s.raiseHalt c = s.enterHalted c := by
  unfold State.raiseHalt
  rw [h]

theorem raiseHalt_of_halted (s : State) (c : HaltCause) (h : s.mode = .halted) :
    s.raiseHalt c = { s with subCause := offerCause c s.subCause } := by
  unfold State.raiseHalt
  rw [h]

theorem raiseHalt_of_other (s : State) (c : HaltCause) (h : s.mode ≠ .counting) (k : s.mode ≠ .halted) : s.raiseHalt c = s := by
  unfold State.raiseHalt
  split <;> first | rfl | contradiction

/-! ### Notices and attention lines -/

theorem setNotice_of_set (n : Notice) (x : Sup) (h : x.noticed n = true) : x.setNotice n = x := by
  unfold Sup.setNotice
  exact if_pos h

theorem setNotice_level (n : Notice) (x : Sup) (h : x.noticed n = false) (m : x.attnMode = .level) :
    x.setNotice n = { x with
      notices := x.notices ||| noticeMaskOf n
      attn := decide ((x.notices ||| noticeMaskOf n) &&& x.mask ≠ 0#10) } := by
  unfold Sup.setNotice
  simp [h, m, Sup.follow]

theorem setNotice_pulse (n : Notice) (x : Sup) (h : x.noticed n = false) (m : x.attnMode = .pulse) :
    x.setNotice n =
      if x.masked n then { x with notices := x.notices ||| noticeMaskOf n, pulse := some 0, attn := true }
      else { x with notices := x.notices ||| noticeMaskOf n } := by
  unfold Sup.setNotice
  simp only [h, m, Bool.false_eq_true, if_false]

/-- Setting a notice touches the notices, the attention line and the pulse alone. -/
theorem setNotice_frame (n : Notice) (x : Sup) :
    x.setNotice n =
      { x with notices := (x.setNotice n).notices, attn := (x.setNotice n).attn, pulse := (x.setNotice n).pulse } := by
  cases h : x.noticed n with
  | true => rw [setNotice_of_set n x h]
  | false =>
    cases m : x.attnMode with
    | level => rw [setNotice_level n x h m, ← m]
    | pulse =>
      rw [setNotice_pulse n x h m, ← m]
      split <;> rfl

/-- A ring that is offered an event touches, of its controller, the ring, the counter, the gap flag and what a notice touches (R177). -/
theorem offer_frame (e : AxleEvent) (x : Sup) :
    x.offer e =
      { x with
        ring := (x.offer e).ring, seq := x.seq + 1#8, gap := (x.offer e).gap
        notices := (x.offer e).notices, attn := (x.offer e).attn, pulse := (x.offer e).pulse } := by
  unfold Sup.offer
  simp only
  split
  · rw [setNotice_frame]
  · split
    · rw [setNotice_frame]
    · rfl

/-! ### The service key -/

theorem seeKey_active (s : State) : s.seeKey true = { s with svkey := true } := rfl

theorem seeKey_inactive_loading (s : State) (h : s.mode = .loading) :
    s.seeKey false = { s with svkey := false, mode := .unconfigured, sub := .none, opTimer := 0 } := by
  unfold State.seeKey State.keyInactive State.abandonLoad
  simp [h]

theorem seeKey_inactive_other (s : State) (h : s.mode ≠ .loading) : s.seeKey false = { s with svkey := false } := by
  unfold State.seeKey State.keyInactive State.abandonLoad
  simp [h]

/-- The key never touches what a request is taken from. -/
theorem seeKey_lcs (s : State) (key : Bool) : (s.seeKey key).lcs = s.lcs := by
  unfold State.seeKey State.keyInactive State.abandonLoad
  cases key
  · simp only [Bool.false_eq_true, if_false]
    split <;> rfl
  · rfl

/-- What the Image Controller makes of a request that the key and the mode do not refuse. -/
theorem judgedByKey_taken (key : Bool) (refusal : State → Option Result) (act : State → State × Answer) (s : State)
    (h : refusal (s.seeKey key) = none) : s.judgedByKey key refusal act = act (s.seeKey key) := by
  unfold State.judgedByKey
  simp only [h]

/-- What it makes of one that they refuse. -/
theorem judgedByKey_refused (key : Bool) (refusal : State → Option Result) (act : State → State × Answer) (s : State) (r : Result)
    (h : refusal (s.seeKey key) = some r) : s.judgedByKey key refusal act = (s.seeKey key, plain r) := by
  unfold State.judgedByKey
  simp only [h]

/-! ### Characters sent -/

@[simp] theorem sentCharacter_data (b : Byte) : (sentCharacter b).data = b := rfl

/-- A receiver finds no error in a character that a transmitter sends (R160). -/
@[simp] theorem goodCharacter_sentCharacter (b : Byte) : goodCharacter (sentCharacter b) = true := by
  unfold goodCharacter parityError sentCharacter
  by_cases h : onesOf b % 2 = 0
  · simp [h]; omega
  · simp [h]

@[simp] theorem sentCharacters_length (bytes : List Byte) : (sentCharacters bytes).length = bytes.length := by
  simp [sentCharacters]

theorem goodCharacter_of_mem_sentCharacters (bytes : List Byte) : ∀ c ∈ sentCharacters bytes, goodCharacter c = true := by
  intro c hc
  obtain ⟨b, _, rfl⟩ := List.mem_map.mp hc
  exact goodCharacter_sentCharacter b

@[simp] theorem characterLevels_length (c : Character) : (characterLevels c).length = 11 := by
  simp [characterLevels]

theorem telegramLevels_length (chars : List Character) : (chars.flatMap characterLevels).length = 11 * chars.length := by
  induction chars with
  | nil => rfl
  | cons c cs ih => simp [ih]; omega

@[simp] theorem Transmitter.level_idle (bit : Nat) : Transmitter.idle.level bit = true := rfl

@[simp] theorem Transmitter.level_gap (bit : Nat) : Transmitter.gap.level bit = true := rfl

/-- Outside its state's bit times a line rests at the high level. -/
theorem Transmitter.level_after (t : Transmitter) (n bit : Nat) (ht : t.bitTimes = some n) (h : n ≤ bit) : t.level bit = true := by
  cases t with
  | idle => rfl
  | gap => rfl
  | sending chars =>
    obtain rfl : 11 * chars.length = n := Option.some.inj ht
    exact List.getD_eq_default _ _ (by rw [telegramLevels_length]; exact h)

/-- A line reads back the bytes it sends: two telegrams with the same characters are the same bytes. -/
theorem sentCharacters_data (bytes : List Byte) : (sentCharacters bytes).map (·.data) = bytes := by
  simp [sentCharacters, Function.comp_def]

end Sys2Proof.Machine
end

