-- ==== Sys2Proof/Laws/Frame.lean ====
section
/-! SUPPORT. No operation below a sampling step and a power-on touches the queue of waiting commands, the step number or the stamp, and
none but the drain touches a drain moment that is due (R1): one lemma per operation. -/

namespace Sys2Proof.Machine

/-- The queue, the number of sampling steps, the stamp and a drain moment due are the same. -/
structure KeepsTime (s t : State) : Prop where
  pending : t.pending = s.pending
  stepNo : t.stepNo = s.stepNo
  stamp : t.stamp = s.stamp
  drainDue : t.drainDue = s.drainDue

theorem KeepsTime.refl (s : State) : KeepsTime s s := ⟨rfl, rfl, rfl, rfl⟩

theorem KeepsTime.trans {s t u : State} (h : KeepsTime s t) (k : KeepsTime t u) : KeepsTime s u :=
  ⟨k.1.trans h.1, k.2.trans h.2, k.3.trans h.3, k.4.trans h.4⟩

theorem keepsTime_setSup (s : State) (l x) : KeepsTime s (s.setSup l x) := ⟨by simp, by simp, by simp, by simp⟩

theorem keepsTime_setLine (s : State) (l x) : KeepsTime s (s.setLine l x) := ⟨by simp, by simp, by simp, by simp⟩

theorem keepsTime_setHead (s : State) (l x) : KeepsTime s (s.setHead l x) := ⟨by simp, by simp, by simp, by simp⟩

theorem keepsTime_setSect (s : State) (l x) : KeepsTime s (s.setSect l x) := ⟨by simp, by simp, by simp, by simp⟩

theorem keepsTime_setRecord (s : State) (l x) : KeepsTime s (s.setRecord l x) := ⟨by simp, by simp, by simp, by simp⟩

theorem keepsTime_asks (s : State) (a) : KeepsTime s (s.asks a) := ⟨rfl, rfl, rfl, rfl⟩

theorem keepsTime_ask (s : State) (n l) : KeepsTime s (s.ask n l) := by rw [ask_eq]; exact keepsTime_asks _ _

theorem keepsTime_askEach (s : State) (n l) : KeepsTime s (s.askEach n l) := by rw [askEach_eq]; exact keepsTime_asks _ _

theorem keepsTime_dropRecord (s : State) (k) : KeepsTime s (s.dropRecord k) := by
  rw [dropRecord_eq]; exact (keepsTime_setRecord _ _ _).trans (keepsTime_asks _ _)

theorem keepsTime_dropRecords (s : State) : KeepsTime s s.dropRecords := by
  rw [dropRecords_eq]; exact ⟨rfl, rfl, rfl, rfl⟩

theorem keepsTime_changeSects (s : State) (f) : KeepsTime s (s.changeSects f) := by
  obtain ⟨v, a, h, _⟩ := changeSects_frame s f
  rw [h]; exact ⟨rfl, rfl, rfl, rfl⟩

theorem keepsTime_raiseOn (s : State) (c d f) : KeepsTime s (s.raiseOn c d f) := keepsTime_changeSects _ _

theorem keepsTime_setNotice (s : State) (n l) : KeepsTime s (s.setNotice n l) := keepsTime_setSup _ _ _

theorem keepsTime_setNoticeEach (s : State) (n l) : KeepsTime s (s.setNoticeEach n l) := by
  rw [setNoticeEach_eq]; exact ⟨rfl, rfl, rfl, rfl⟩

theorem keepsTime_enterHalted (s : State) (c) : KeepsTime s (s.enterHalted c) := by
  unfold State.enterHalted
  refine KeepsTime.trans ?_ (keepsTime_setNoticeEach _ _ _)
  refine KeepsTime.trans ?_ (keepsTime_setNoticeEach _ _ _)
  have := keepsTime_dropRecords s
  exact ⟨this.1, this.2, this.3, this.4⟩

theorem keepsTime_raiseHalt (s : State) (c) : KeepsTime s (s.raiseHalt c) := by
  unfold State.raiseHalt
  split
  · exact keepsTime_enterHalted _ _
  all_goals exact ⟨rfl, rfl, rfl, rfl⟩

theorem keepsTime_enterImage (s : State) (i g) : KeepsTime s (s.enterImage i g) := by
  unfold State.enterImage State.restartReports State.resetCounting State.mapHeads
  constructor <;> simp only

theorem keepsTime_respond (s : State) (l k a) : KeepsTime s (s.respond l k a) := keepsTime_setLine _ _ _

theorem keepsTime_takeSup (s : State) (l r owner) (h : ∀ t, KeepsTime t (owner t).1) : KeepsTime s (s.takeSup l r owner) := by
  unfold State.takeSup
  split
  · exact ((keepsTime_setSup _ _ _).trans (h _)).trans (keepsTime_respond _ _ _ _)
  · split
    · exact keepsTime_setLine _ _ _
    · exact (h _).trans (keepsTime_respond _ _ _ _)

theorem keepsTime_takeSvc (s : State) (r owner) (h : ∀ t, KeepsTime t (owner t).1) : KeepsTime s (s.takeSvc r owner) := by
  have hh : ∀ o : State × Answer, KeepsTime s o.1 → KeepsTime s (match o with | (t, a) => t.respond .svl (svcKind r) a) := by
    rintro ⟨t, a⟩ k
    exact k.trans (keepsTime_respond _ _ _ _)
  unfold State.takeSvc
  split
  · exact hh _ (KeepsTime.trans (t := { s with lcs := { s.lcs with handed := none } }) ⟨rfl, rfl, rfl, rfl⟩ (h _))
  · split
    · exact keepsTime_setLine _ _ _
    · exact hh _ (h _)
/-! ### Heads -/

theorem keepsTime_enterFault (s : State) (d c) : KeepsTime s (s.enterFault d c) := (keepsTime_setHead _ _ _).trans (keepsTime_askEach _ _ _)

theorem keepsTime_takeFaultInput (s : State) (d) : KeepsTime s (s.takeFaultInput d) := by
  unfold State.takeFaultInput
  simp only
  split
  · split
    · exact keepsTime_setHead _ _ _
    · exact keepsTime_enterFault _ _ _
  · exact KeepsTime.refl _

theorem keepsTime_takeGlitch (s : State) (d) : KeepsTime s (s.takeGlitch d) := by
  unfold State.takeGlitch
  split
  · exact KeepsTime.refl _
  · refine (keepsTime_takeFaultInput s d).trans ?_
    simp only
    split
    · split
      · exact (keepsTime_setHead _ _ _).trans (keepsTime_enterFault _ _ _)
      · exact keepsTime_setHead _ _ _
    · exact keepsTime_setHead _ _ _

theorem keepsTime_followPair (s : State) (d) : KeepsTime s (s.followPair d) := by
  unfold State.followPair
  split <;> first
    | exact keepsTime_setHead _ _ _
    | exact KeepsTime.refl _
    | (unfold State.depart; simp only; split <;> first | exact keepsTime_enterFault _ _ _ | exact keepsTime_setHead _ _ _)
    | (unfold State.countingReturn; simp only; split <;> first | exact keepsTime_enterFault _ _ _ | exact keepsTime_setHead _ _ _)

theorem keepsTime_takeChange (s : State) (d) : KeepsTime s (s.takeChange d) := by
  unfold State.takeChange
  simp only
  split
  · refine (keepsTime_takeFaultInput s d).trans ((keepsTime_takeGlitch _ d).trans ?_)
    split
    · split
      · exact (keepsTime_setHead _ _ _).trans (keepsTime_enterFault _ _ _)
      · exact (keepsTime_setHead _ _ _).trans (keepsTime_followPair _ _)
    · exact keepsTime_setHead _ _ _
  · exact KeepsTime.refl _

theorem keepsTime_takeRecovery (s : State) (d x) : KeepsTime s (s.takeRecovery d x) := by
  unfold State.takeRecovery; simp only; split
  · exact keepsTime_setHead _ _ _
  · exact KeepsTime.refl _

/-- A drain moment is taken: the queue, the step number and the stamp are the same, and no drain moment is due any more (R7). -/
theorem drainBuckets_time (s : State) :
    s.drainBuckets.pending = s.pending ∧ s.drainBuckets.stepNo = s.stepNo ∧ s.drainBuckets.stamp = s.stamp ∧
      s.drainBuckets.drainDue = false := by
  unfold State.drainBuckets
  split
  · exact ⟨by simp, by simp, by simp, rfl⟩
  · next h => exact ⟨rfl, rfl, rfl, by simpa using h⟩

/-! ### Counting -/

theorem keepsTime_applyTerm (s : State) (d dir t) : KeepsTime s (State.applyTerm d dir s t) := by
  unfold State.applyTerm
  simp only
  split
  · have h1 : ∀ y, KeepsTime s ((s.setSect t.sect y).dropRecord t.sect) := fun y => (keepsTime_setSect _ _ _).trans (keepsTime_dropRecord _ _)
    generalize hy : (if countsIn t.sense dir = true then _ else _ : Sect) = y
    split <;> split
    · exact ((h1 _).trans (keepsTime_askEach _ _ _)).trans (keepsTime_askEach _ _ _)
    · exact (h1 _).trans (keepsTime_askEach _ _ _)
    · exact ((h1 _)).trans (keepsTime_askEach _ _ _)
    · exact h1 _
  · exact KeepsTime.refl _

theorem keepsTime_foldl {α} (f : State → α → State) (h : ∀ s a, KeepsTime s (f s a)) (xs : List α) (s : State) : KeepsTime s (xs.foldl f s) := by
  induction xs generalizing s with
  | nil => exact KeepsTime.refl _
  | cons x xs ih => exact (h s x).trans (ih _)

theorem keepsTime_applyEvent (s : State) (e ts) : KeepsTime s (s.applyEvent e ts) := by
  unfold State.applyEvent
  refine (keepsTime_foldl (State.applyTerm e.dp e.dir) (fun s t => keepsTime_applyTerm s _ _ t) ts s).trans ?_
  unfold State.handOff
  simp only
  split <;> split <;> exact ⟨rfl, rfl, rfl, rfl⟩

theorem keepsTime_applyAxle (s : State) (e r1 r2) : KeepsTime s (s.applyAxle e r1 r2) := by
  unfold State.applyAxle
  split
  · exact keepsTime_applyEvent _ _ _
  · split
    · simp only
      have h : KeepsTime s (({ s with softErrors := s.softErrors + 1 } : State).applyEvent e (s.readEntry e.dp r2).1.terms) :=
        KeepsTime.trans (t := { s with softErrors := s.softErrors + 1 }) ⟨rfl, rfl, rfl, rfl⟩ (keepsTime_applyEvent _ _ _)
      split
      · exact h.trans (keepsTime_raiseHalt _ _)
      · exact h
    · exact keepsTime_raiseHalt _ _

theorem keepsTime_takeAxle (s : State) (d r1 r2) : KeepsTime s (s.takeAxle d r1 r2) := by
  unfold State.takeAxle
  split
  · simp only
    split
    · exact (keepsTime_setHead _ _ _).trans (keepsTime_applyAxle _ _ _ _)
    · exact keepsTime_setHead _ _ _
  · exact KeepsTime.refl _
  · exact KeepsTime.refl _

theorem keepsTime_applyClass (s : State) (d c) : KeepsTime s (s.applyClass d c) := by
  cases c
  · exact KeepsTime.trans (t := { s with view := s.view.set d .free }) ⟨rfl, rfl, rfl, rfl⟩ (keepsTime_changeSects _ _)
  · exact KeepsTime.trans (t := { s with view := s.view.set d .notFree }) ⟨rfl, rfl, rfl, rfl⟩ (keepsTime_changeSects _ _)
  · exact KeepsTime.trans (t := { s with view := s.view.set d .fault }) ⟨rfl, rfl, rfl, rfl⟩ (keepsTime_raiseOn _ _ _ _)

theorem keepsTime_takeClass (s : State) (d) : KeepsTime s (s.takeClass d) := by
  unfold State.takeClass
  split
  · next rest _ => exact (keepsTime_setHead s d { s.heads[d] with outbox := rest }).trans (keepsTime_applyClass _ _ _)
  · exact KeepsTime.refl _
  · exact KeepsTime.refl _

theorem keepsTime_takeSettle (s : State) (k) : KeepsTime s (s.takeSettle k) := by
  unfold State.takeSettle; split
  · exact keepsTime_changeSects _ _
  · exact KeepsTime.refl _

theorem keepsTime_takePeriod (s : State) : KeepsTime s s.takePeriod := by
  unfold State.takePeriod; split <;> exact ⟨rfl, rfl, rfl, rfl⟩

theorem keepsTime_performReset (s : State) (kd k) : KeepsTime s (s.performReset kd k) := by
  unfold State.performReset
  exact (keepsTime_setSect s k _).trans (keepsTime_askEach _ _ _)

theorem keepsTime_openReset (s : State) (kd l k) : KeepsTime s (s.openReset kd l k).1 := by
  unfold State.openReset
  split
  · exact KeepsTime.refl _
  · split
    · exact (keepsTime_setRecord _ _ _).trans (keepsTime_ask _ _ _)
    · exact keepsTime_performReset _ _ _

theorem keepsTime_meetRecord (s : State) (kd l k r) : KeepsTime s (s.meetRecord kd l k r).1 := by
  unfold State.meetRecord
  split
  · exact KeepsTime.refl _
  · split
    · exact keepsTime_dropRecord _ _
    · split
      · exact keepsTime_dropRecord _ _
      · exact (keepsTime_performReset _ _ _).trans (keepsTime_setRecord _ _ _)

theorem keepsTime_requestReset (kd l n) (s : State) : KeepsTime s (State.requestReset kd l n s).1 := by
  unfold State.requestReset
  split
  · exact KeepsTime.refl _
  · split
    · exact KeepsTime.refl _
    · split
      · exact keepsTime_openReset _ _ _ _
      · exact keepsTime_meetRecord _ _ _ _ _

theorem keepsTime_cancelReset (l n) (s : State) : KeepsTime s (State.cancelReset l n s).1 := by
  unfold State.cancelReset
  split
  · exact KeepsTime.refl _
  · split
    · exact KeepsTime.refl _
    · split
      · exact keepsTime_setRecord _ _ _
      · exact KeepsTime.refl _

theorem keepsTime_takeWindow (s : State) (k) : KeepsTime s (s.takeWindow k) := by
  unfold State.takeWindow; split
  · exact keepsTime_dropRecord _ _
  · exact KeepsTime.refl _

theorem keepsTime_sectDetail (n) (s : State) : KeepsTime s (State.sectDetail n s).1 := by
  unfold State.sectDetail; split <;> exact KeepsTime.refl _

/-! ### Integrity -/

theorem keepsTime_startScrub (s : State) : KeepsTime s s.startScrub := by unfold State.startScrub; split <;> exact ⟨rfl, rfl, rfl, rfl⟩

theorem keepsTime_completeScrub (s : State) (r) : KeepsTime s (s.completeScrub r) := by
  unfold State.completeScrub
  split
  · simp only
    split
    · split <;> exact ⟨rfl, rfl, rfl, rfl⟩
    · exact KeepsTime.trans (t := { s with scrubPass := false }) ⟨rfl, rfl, rfl, rfl⟩ (keepsTime_raiseHalt _ _)
  · exact KeepsTime.refl _

theorem keepsTime_endClockWindow (s : State) : KeepsTime s s.endClockWindow := by
  unfold State.endClockWindow
  simp only
  split
  · exact KeepsTime.trans (t := { s with clockTicks := 0 }) ⟨rfl, rfl, rfl, rfl⟩ (keepsTime_raiseHalt _ _)
  · exact ⟨rfl, rfl, rfl, rfl⟩

/-! ### The image -/

theorem keepsTime_completeStart (s : State) : KeepsTime s s.completeStart := by
  unfold State.completeStart
  split
  · simp only
    split
    · exact ⟨rfl, rfl, rfl, rfl⟩
    · split
      · exact keepsTime_enterImage _ _ _
      · exact ⟨rfl, rfl, rfl, rfl⟩
  · exact KeepsTime.refl _

theorem keepsTime_completeClearing (s : State) : KeepsTime s s.completeClearing := by
  unfold State.completeClearing; split <;> exact ⟨rfl, rfl, rfl, rfl⟩

theorem keepsTime_completeVerify (s : State) : KeepsTime s s.completeVerify := by
  unfold State.completeVerify
  split
  · split
    · exact ⟨rfl, rfl, rfl, rfl⟩
    · exact KeepsTime.trans (t := { s with store := some ⟨s.image, s.image.signature⟩ }) ⟨rfl, rfl, rfl, rfl⟩ (keepsTime_enterImage _ _ _)
  · exact KeepsTime.refl _

theorem keepsTime_keyInactive (s : State) : KeepsTime s s.keyInactive := by
  unfold State.keyInactive State.abandonLoad; split <;> exact ⟨rfl, rfl, rfl, rfl⟩

theorem keepsTime_seeKey (s : State) (k) : KeepsTime s (s.seeKey k) := by
  unfold State.seeKey; split
  · exact ⟨rfl, rfl, rfl, rfl⟩
  · exact keepsTime_keyInactive _

theorem keepsTime_judgedByKey (key r act) (h : ∀ t, KeepsTime t (act t).1) (s : State) :
    KeepsTime s (State.judgedByKey key r act s).1 := by
  unfold State.judgedByKey; simp only; split
  · exact keepsTime_seeKey _ _
  · exact (keepsTime_seeKey _ _).trans (h _)

theorem keepsTime_leaveForce (s : State) : KeepsTime s s.leaveForce := by
  unfold State.leaveForce State.restartReports
  cases s.inForce.isSome <;> exact ⟨rfl, rfl, rfl, rfl⟩

theorem keepsTime_resetCounting (s : State) : KeepsTime s s.resetCounting := by
  unfold State.resetCounting; constructor <;> simp only

theorem keepsTime_beginLoad (s : State) : KeepsTime s (State.beginLoad s).1 := by
  unfold State.beginLoad
  simp only
  have h1 : KeepsTime s (if s.mode.running = true then s.mapHeads (Head.toUnknown heldQual) else s) := by
    split
    · constructor <;> simp
    · exact KeepsTime.refl _
  generalize (if s.mode.running = true then s.mapHeads (Head.toUnknown heldQual) else s) = t at h1 ⊢
  have h := ((h1.trans (keepsTime_resetCounting t)).trans (u := t.resetCounting.resetIntegrity) ⟨rfl, rfl, rfl, rfl⟩).trans (keepsTime_leaveForce _)
  exact ⟨h.1, h.2, h.3, h.4⟩

theorem keepsTime_restart (s : State) : KeepsTime s (State.restart s).1 := by
  unfold State.restart
  simp only
  have h1 : KeepsTime s (s.mapHeads fun h => { h.toUnknown heldQual with lastCause := .none }) := by constructor <;> simp
  generalize (s.mapHeads fun h => { h.toUnknown heldQual with lastCause := .none }) = t at h1 ⊢
  have h := ((h1.trans (keepsTime_resetCounting t)).trans (u := t.resetCounting.resetIntegrity) ⟨rfl, rfl, rfl, rfl⟩).trans (keepsTime_leaveForce _)
  exact ⟨h.1, h.2, h.3, h.4⟩

theorem keepsTime_setIndex (a b) (s : State) : KeepsTime s (State.setIndex a b s).1 := by
  unfold State.setIndex; split
  · exact ⟨rfl, rfl, rfl, rfl⟩
  · split <;> exact ⟨rfl, rfl, rfl, rfl⟩

theorem keepsTime_writeMap (a b) (s : State) : KeepsTime s (State.writeMap a b s).1 := by
  unfold State.writeMap; split
  · split <;> exact ⟨rfl, rfl, rfl, rfl⟩
  all_goals exact KeepsTime.refl _

theorem keepsTime_writeSect (a b c d) (s : State) : KeepsTime s (State.writeSect a b c d s).1 := by
  unfold State.writeSect; split
  · exact ⟨rfl, rfl, rfl, rfl⟩
  all_goals exact KeepsTime.refl _

theorem keepsTime_endorse (l g) (s : State) : KeepsTime s (State.endorse l g s).1 := by
  have hs : KeepsTime s (s.setEndorsed l true) := ⟨by simp, by simp, by simp, by simp⟩
  unfold State.endorse; split
  · split
    · simp only
      split
      · exact hs.trans ⟨rfl, rfl, rfl, rfl⟩
      · exact hs
    · exact KeepsTime.refl _
  all_goals exact KeepsTime.refl _

theorem keepsTime_withdraw (l) (s : State) : KeepsTime s (State.withdrawEndorsement l s).1 := by
  have hs : KeepsTime s (s.setEndorsed l false) := ⟨by simp, by simp, by simp, by simp⟩
  unfold State.withdrawEndorsement
  simp only
  split
  · refine (hs.trans ?_).trans (keepsTime_ask _ _ _)
    unfold State.stopCounting
    have := (keepsTime_dropRecords (s.setEndorsed l false)).trans (keepsTime_raiseOn _ .notCounting none fun _ => true)
    exact ⟨this.1, this.2, this.3, this.4⟩
  · exact hs

/-! ### Links -/

theorem keepsTime_settleRx (s : State) (l) : KeepsTime s (s.settleRxRate l) := by
  unfold State.settleRxRate; split
  · exact KeepsTime.refl _
  · split
    · exact keepsTime_setSup _ _ _
    · exact KeepsTime.refl _

theorem keepsTime_settleTx (s : State) (l) : KeepsTime s (s.settleTxRate l) := by
  unfold State.settleTxRate; split
  · exact KeepsTime.refl _
  · split
    · exact keepsTime_setSup _ _ _
    · exact KeepsTime.refl _

theorem keepsTime_reject (s : State) (l) : KeepsTime s (s.reject l) := by
  unfold State.reject; simp only; split
  · exact (keepsTime_setLine _ _ _).trans (keepsTime_setNotice _ _ _)
  · exact (keepsTime_setLine _ _ _)

theorem keepsTime_judge (s : State) (l b) : KeepsTime s (s.judgeTelegram l b) := by
  unfold State.judgeTelegram; split
  · exact keepsTime_reject _ _
  · split
    · unfold State.acceptSup; split
      · exact keepsTime_setLine _ _ _
      · split
        · unfold State.malformed; exact keepsTime_respond _ _ _ _
        · exact keepsTime_setSup _ _ _
    · unfold State.acceptSvc; split
      · exact keepsTime_setLine _ _ _
      · split
        · unfold State.malformed; exact keepsTime_respond _ _ _ _
        · exact ⟨rfl, rfl, rfl, rfl⟩

theorem keepsTime_endTelegram (s : State) (l) : KeepsTime s (s.endTelegram l) := by
  unfold State.endTelegram; simp only; split
  · exact KeepsTime.refl _
  · exact (keepsTime_setLine _ _ _).trans (keepsTime_judge _ _ _)
  · exact (keepsTime_setLine _ _ _).trans (keepsTime_reject _ _)

theorem keepsTime_startResponse (s : State) (l) : KeepsTime s (s.startResponse l) := by
  unfold State.startResponse; split
  · exact (keepsTime_settleTx _ _).trans (keepsTime_setLine _ _ _)
  · exact KeepsTime.refl _

theorem keepsTime_startStatus (s : State) (l) : KeepsTime s (s.startStatus l) := by
  unfold State.startStatus; split
  · exact (keepsTime_settleTx _ _).trans (keepsTime_setSup _ _ _)
  · exact KeepsTime.refl _

theorem keepsTime_startEvents (s : State) (l) : KeepsTime s (s.startEvents l) := by
  unfold State.startEvents; split
  · exact (keepsTime_settleTx _ _).trans (keepsTime_setSup _ _ _)
  · exact KeepsTime.refl _

/-! ### What earlier steps made due -/

/-- What is due is taken: the queue, the step number and the stamp are the same, and no drain moment is due any more. -/
theorem takeDue_time (s : State) :
    s.takeDue.pending = s.pending ∧ s.takeDue.stepNo = s.stepNo ∧ s.takeDue.stamp = s.stamp ∧ s.takeDue.drainDue = false := by
  have hh : ∀ s d, KeepsTime s (State.takeHead s d) := fun s d =>
    ((((keepsTime_takeFaultInput s d).trans (keepsTime_takeGlitch _ d)).trans (keepsTime_takeChange _ d)).trans
      (keepsTime_takeRecovery _ d _)).trans (keepsTime_takeRecovery _ d _)
  have hf : ∀ s : State, KeepsTime s s.takeFullWindow := fun s => by
    unfold State.takeFullWindow; split
    · exact keepsTime_endClockWindow _
    · exact KeepsTime.refl _
  have hr : ∀ (s : State) l, KeepsTime s (s.takeReport l) := fun s l => by
    unfold State.takeReport; split
    · exact keepsTime_setSup _ _ _
    · exact KeepsTime.refl _
  have hp : ∀ (s : State) l, KeepsTime s (s.takePulseEnd l) := fun s l => keepsTime_setSup _ _ _
  have h1 := keepsTime_foldl _ hh (List.finRange 32) s
  have h2 := drainBuckets_time ((List.finRange 32).foldl State.takeHead s)
  have h3 : KeepsTime ((List.finRange 32).foldl State.takeHead s).drainBuckets s.takeDue := by
    unfold State.takeDue
    simp only
    refine KeepsTime.trans ?_ (hp _ _)
    refine KeepsTime.trans ?_ (hp _ _)
    refine KeepsTime.trans ?_ (hr _ _)
    refine KeepsTime.trans ?_ (hr _ _)
    refine KeepsTime.trans ?_ (keepsTime_completeVerify _)
    refine KeepsTime.trans ?_ (keepsTime_completeClearing _)
    refine KeepsTime.trans ?_ (keepsTime_completeStart _)
    refine KeepsTime.trans ?_ (hf _)
    refine KeepsTime.trans ?_ (keepsTime_startScrub _)
    refine KeepsTime.trans ?_ (keepsTime_foldl _ keepsTime_takeWindow _ _)
    refine KeepsTime.trans ?_ (keepsTime_takePeriod _)
    exact keepsTime_foldl _ keepsTime_takeSettle _ _
  exact ⟨h3.1.trans (h2.1.trans h1.1), h3.2.trans (h2.2.1.trans h1.2), h3.3.trans (h2.2.2.1.trans h1.3), h3.4.trans h2.2.2.2⟩

end Sys2Proof.Machine
end

