-- ==== Sys2Proof/Tests/Slice0.lean ====
section
/-! SUPPORT. Tests: ill-formed commands are refused by the check; the spec's worked values; one step of each family of commands; and, for each
statement with hypotheses, a state and operands that meet them (the theorems test_met_…), each clause at a boundary where it has one. -/

open Sys2Proof Sys2Proof.Machine

namespace Sys2Proof.Tests

set_option Elab.async false

/-! ### Well-formedness: each check refuses an ill-formed command -/

/-- Five terms, one more than an entry holds. -/
def fiveTerms : MapEntry := ⟨List.replicate 5 ⟨0, .inOnN, false⟩⟩

theorem test_form_reads : Instr.wellFormed (.axleEvent 0 (.altered fiveTerms 0#8) .intact) = false ∧
    Instr.wellFormed (.axleEvent 0 .intact (.altered fiveTerms 0#8)) = false ∧
    Instr.wellFormed (.axleEvent 0 (.altered ⟨fiveTerms.terms.take 4⟩ 0#8) .intact) = true := by decide

theorem test_form_scrub : Instr.wellFormed (.scrubComplete (.altered (List.replicate 173 0#8))) = false ∧
    Instr.wellFormed (.scrubComplete (.altered (List.replicate 431 0#8))) = false ∧
    Instr.wellFormed (.scrubComplete (.altered (List.replicate 174 0#8))) = true := by decide +kernel

theorem test_form_section_byte : ∀ c ∈ [Instr.resetPrep .sl0 256, .resetDirect .sl0 256, .resetCancel .sl1 256, .sectionDetail .sl1 256,
    .noticeMask .sl0 0#16 256, .loadIndex true 256 0, .loadIndex true 0 256, .headRead 256], c.wellFormed = false := by decide

theorem test_form_section_entry : ∀ c ∈ [Instr.sectionEntry true 256 0 0 0, .sectionEntry true 0 256 0 0, .sectionEntry true 0 0 256 0,
    .sectionEntry true 0 0 0 256], c.wellFormed = false := by decide

theorem test_form_map_entry : Instr.wellFormed (.mapEntry true 256 []) = false ∧
    Instr.wellFormed (.mapEntry true 0 (List.replicate 29 ⟨0, .inOnN, false⟩)) = false ∧
    Instr.wellFormed (.mapEntry true 0 [⟨256, .inOnN, false⟩]) = false ∧
    Instr.wellFormed (.mapEntry true 255 (List.replicate 28 ⟨255, .inOnR, true⟩)) = true := by decide

def g0 : Globals := Globals.default

def p0 : LinkParams := LinkParams.default

theorem test_form_globals : ∀ g ∈ [{ g0 with settleBase := 256 }, { g0 with qual := 256 }, { g0 with minPassage := 256 },
    { g0 with minFree := 256 }, { g0 with glitchLimit := 256 }, { g0 with recovery := 256 }, { g0 with concurWindow := 256 },
    { g0 with histExp := 256 }, { g0 with softLimit := 256 }, { g0 with scrubPeriod := 256 }],
    Instr.wellFormed (.globalEntry true g p0 p0) = false := by decide

theorem test_form_params : Instr.wellFormed (.globalEntry true g0 ⟨256, 0⟩ p0) = false ∧
    Instr.wellFormed (.globalEntry true g0 ⟨0, 256⟩ p0) = false ∧ Instr.wellFormed (.globalEntry true g0 p0 ⟨256, 0⟩) = false ∧
    Instr.wellFormed (.globalEntry true g0 p0 ⟨0, 256⟩) = false ∧ Instr.wellFormed (.globalEntry true g0 p0 p0) = true := by decide

/-! ### Values that the spec works out -/

/-- Check codes of unused heads (R33). -/
theorem test_check_codes : entryCode 0 ⟨[]⟩ = 215#8 ∧ entryCode 1 ⟨[]⟩ = 194#8 := by decide +kernel

/-- The shortest telegram, LOAD_STATUS (R161, R162). -/
theorem test_shortest_telegram : telegram 0x22#8 [] = [0xA6#8, 0x01#8, 0x22#8, 0x2A#8, 0x1E#8] := by decide +kernel

/-- The throat map of chapter 2. -/
def throat : Image :=
  { Image.default with
    sects := (((Image.default.sects.set 2 ⟨.sl0, true, 0, 3⟩).set 3 ⟨.sl1, false, 2, 0⟩).set 9 ⟨.sl1, false, 0, 0⟩).set 14
      ⟨.shared, true, 0, 4⟩
    map := (((Image.default.map.set 4 ⟨[⟨2, .inOnN, false⟩, ⟨9, .inOnN, false⟩]⟩).set 5
      ⟨[⟨2, .inOnR, false⟩, ⟨3, .inOnN, true⟩]⟩).set 6 ⟨[⟨3, .inOnR, false⟩, ⟨9, .inOnR, false⟩]⟩).set 11 ⟨[⟨14, .inOnN, false⟩]⟩ }

theorem test_canonical_lengths : Image.default.canonical.length = 174 ∧ throat.canonical.length = 188 := by decide +kernel

theorem test_check_sequence : checkSequence 5 throat.map[5] = [5#8, 2#8, 2#8, 1#8, 3#8, 2#8] := by decide +kernel

theorem test_throat_bounding : throat.boundingSet 2 = [4, 5] ∧ throat.boundingSet 3 = [5, 6] ∧ throat.boundingSet 9 = [4, 6] ∧
    throat.boundingSet 14 = [11] ∧ throat.boundingSet 0 = [] := by decide +kernel

theorem test_throat_routing : throat.routingSet 4 = ⟨true, true⟩ ∧ throat.routingSet 6 = ⟨false, true⟩ ∧
    throat.routingSet 11 = ⟨true, true⟩ ∧ throat.routingSet 12 = ⟨false, false⟩ := by decide +kernel

theorem test_throat_legal : throat.firstOffence = none := by decide +kernel

/-- Clamped values of chapter 8. -/
theorem test_clamping : Globals.clamp ⟨5, 5, 20, 0, 1, 3, 90, 2, 3, 10⟩ = ⟨5, 5, 20, 0, 2, 3, 60, 2, 3, 10⟩ ∧
    LinkParams.clamp ⟨2, 12⟩ = ⟨2, 9⟩ ∧ SectEntry.clamp ⟨.sl1, true, 20, 9⟩ = ⟨.sl1, true, 15, 8⟩ := by decide

/-- History views of chapter 5: flags 0 and 4 stored at period 6, read at period 10. -/
theorem test_history_view : Sect.historyView 10#16 { Sect.reset with flags := 17#8, histStamp := 6#16 } = 16#8 := by decide

/-- Effective periods for 24 sections (chapter 10): 649 bits at the four rates. -/
theorem test_covering_powers : (coveringPower 649 19200 16 1, coveringPower 649 38400 16 1, coveringPower 649 57600 16 1,
    coveringPower 649 115200 16 1) = (64, 32, 16, 8) := by decide

/-! ### States to test on -/

/-- The state that a command answers. -/
def after (o : Out) : State :=
  match o with
  | .next t => t
  | .fault _ => State.reset
  | .refused _ => State.reset

/-- A head at rest in FREE. -/
def atRest : Head := { Head.reset with state := .free }

def clear : Sect := { Sect.reset with state := .clear, cause := .none }

/-- COUNTING under the throat map, every head FREE, every used section CLEAR. -/
def demo : State :=
  { State.reset.enterImage throat 0x12345678#32 with
    mode := .counting
    endorsed0 := true
    endorsed1 := true
    scrubTimer := some 0
    heads := Vector.replicate 32 atRest
    view := Vector.replicate 32 .free
    sects := ((((Vector.replicate 24 Sect.reset).set 2 clear).set 3 clear).set 9 clear).set 14 clear
    stepNo := 5000
    stamp := 500#16 }

/-- The same with one head, and with one section. -/
def headAt (h : Head) : State := demo.setHead 5 h

def sectAt (k : SectNo) (x : Sect) : State := demo.setSect k x

def occupied (n : Nat) : Sect := { clear with state := .occupied, count := n }

/-- A head in a state with qualified and raw levels, and the candidate counts at QUAL where they differ. -/
def moving (x : HeadState) (q1 q2 raw1 raw2 : Bool) : Head :=
  { atRest with
    state := x, q1 := q1, q2 := q2, raw1 := raw1, raw2 := raw2
    cand1 := if raw1 = q1 then 0 else 5
    cand2 := if raw2 = q2 then 0 else 5
    passageStart := some 4980 }

/-- LOADING, in FILLING, with the key active. -/
def filling : State := { State.reset with mode := .loading, sub := .filling, svkey := true }

/-! ### One step of each family of commands -/

theorem test_departure : (after (exec (.qualifiedChange 5) (headAt (moving .free false false true false)))).heads[5].state = .n1 := by
  decide +kernel

theorem test_counting_return :
    (after (exec (.qualifiedChange 5) (headAt (moving .n3 false true false false)))).heads[5].outbox =
      [.axle ⟨5, .n, 500#16⟩, .classChange .free] := by decide +kernel

theorem test_too_fast :
    (after (exec (.qualifiedChange 5) (headAt { moving .r4 true false false false with passageStart := some 4981 }))).heads[5].lastCause =
      .tooFast := by decide +kernel

/-- The third damped step of chapter 1's qualification table, and its glitch. -/
theorem test_glitch :
    let t := after (exec (.glitch 5) (headAt { atRest with cand1 := 2 }))
    t.heads[5].cand1 = 0 ∧ t.heads[5].bucket = 1 := by decide +kernel

theorem test_interference : (after (exec (.glitch 5) (headAt { atRest with cand1 := 2, bucket := 7 }))).heads[5].lastCause =
    .interference := by decide +kernel

theorem test_front_end_fault :
    let t := after (exec (.frontEndFault 5) (headAt { atRest with faultIn := true }))
    t.heads[5].state = .fault ∧ t.lc0.asked = [.headFault] ∧ t.lc1.asked = [.headFault] := by decide +kernel

theorem test_recovery : (after (exec (.headRecovery 5) (headAt { atRest with state := .fault, recovery := 30000 }))).heads[5].state =
    .free := by decide +kernel

theorem test_bucket_drain : (after (exec .bucketDrain { headAt { atRest with bucket := 5 } with drainDue := true })).heads[5].bucket = 4 := by
  decide +kernel

/-- An axle of direction N at DP5 leaves S2 and enters S3, and sets SELECTED on SL1 alone (chapter 3's run). -/
theorem test_axle_event :
    let t := after (exec (.axleEvent 5 .intact .intact)
      { headAt { atRest with outbox := [.axle ⟨5, .n, 9#16⟩] } with sects := demo.sects.set 2 (occupied 4) })
    (t.sects[2].state, t.sects[2].count, t.sects[3].state, t.sects[3].count) = (.occupied, 3, .occupied, 1) ∧
      t.lc0.ring.length = 1 ∧ t.lc1.asked = [.change, .selected] ∧ t.lc0.asked = [] := by decide +kernel

/-- DP6 is routed to SL1 alone. -/
theorem test_axle_event_routing :
    let t := after (exec (.axleEvent 6 .intact .intact) (demo.setHead 6 { atRest with outbox := [.axle ⟨6, .r, 9#16⟩] }))
    t.lc0.ring.length = 0 ∧ t.lc1.ring = [⟨0#8, 6, .r, 9#16⟩] ∧ t.sects[9].count = 1 := by decide +kernel

theorem test_axle_event_map_hard :
    let t := after (exec (.axleEvent 5 (.altered ⟨[]⟩ 0#8) (.altered ⟨[]⟩ 0#8))
      (headAt { atRest with outbox := [.axle ⟨5, .n, 9#16⟩] }))
    t.mode = .halted ∧ t.firstCause = some .mapHard ∧ t.sects[2].cause = .halt := by decide +kernel

/-- A fault at DP5 disturbs S2 and S3 but not S9 (chapter 2). -/
theorem test_class_fault :
    let t := after (exec (.headClassChange 5) (headAt { atRest with outbox := [.classChange .fault] }))
    (t.sects[2].state, t.sects[3].state, t.sects[9].state) = (.disturbed, .disturbed, .clear) := by decide +kernel

theorem test_class_not_free :
    let t := after (exec (.headClassChange 4) (demo.setHead 4 { atRest with outbox := [.classChange .notFree] }))
    t.sects[2].state = .settling ∧ t.sects[2].settle = none ∧ t.sects[9].state = .settling := by decide +kernel

theorem test_settle_expiry :
    (after (exec (.settleExpiry 3) (sectAt 3 { clear with state := .settling, settle := some 700 }))).sects[3].state = .clear := by
  decide +kernel

theorem test_history_period : (after (exec .historyPeriodExpiry { demo with periodTimer := 4000, periodCounter := 65535#16 })).periodCounter =
    0#16 := by decide +kernel

/-- A shared section: PENDING, then ACCEPTED from the other link (chapter 6). -/
theorem test_reset_prep_pending :
    let t := after (exec (.resetPrep .sl1 14) (sectAt 14 (occupied 2)))
    t.records[14] = some ⟨.prep, .sl1, 0⟩ ∧ t.lc1.line.slot = some ⟨0x11#8, .pending, []⟩ ∧ t.lc0.asked = [.concurOpen] := by
  decide +kernel

theorem test_reset_prep_complete :
    let t := after (exec (.resetPrep .sl0 14) ((sectAt 14 (occupied 2)).setRecord 14 (some ⟨.prep, .sl1, 7400⟩)))
    t.sects[14].state = .restoring ∧ t.records[14] = none ∧ t.lc0.line.slot = some ⟨0x11#8, .accepted, []⟩ := by decide +kernel

theorem test_reset_direct_alone :
    let t := after (exec (.resetDirect .sl0 2) (sectAt 2 (occupied 2)))
    t.sects[2].state = .settling ∧ t.sects[2].settle = some 0 ∧ t.lc0.asked = [.change] := by decide +kernel

theorem test_reset_direct_recent :
    (after (exec (.resetDirect .sl0 2) (sectAt 2 { occupied 2 with flags := 4#8 }))).lc0.line.slot =
      some ⟨0x12#8, .refusedRecentTraffic, []⟩ := by decide +kernel

theorem test_reset_cancel :
    let t := after (exec (.resetCancel .sl1 14) ((sectAt 14 (occupied 2)).setRecord 14 (some ⟨.prep, .sl1, 5⟩)))
    t.records[14] = none ∧ t.lc1.asked = [] := by decide +kernel

theorem test_window_expiry :
    let t := after (exec (.concurWindowExpiry 14) ((sectAt 14 (occupied 2)).setRecord 14 (some ⟨.prep, .sl1, 20000⟩)))
    t.records[14] = none ∧ t.lc1.asked = [.concurLapsed] := by decide +kernel

/-- 20,000 ms less 3,000 ms elapsed is 17 s (chapter 6). -/
theorem test_section_detail :
    (after (exec (.sectionDetail .sl0 14) ((sectAt 14 (occupied 258)).setRecord 14 (some ⟨.prep, .sl1, 3000⟩)))).lc0.line.slot =
      some ⟨0x14#8, .accepted, [14#8, 1#8, 1#8, 2#8, 0#8, 255#8, 0#8, 1#8, 2#8, 17#8]⟩ := by decide +kernel

theorem test_scrub_start : (after (exec .scrubStart { demo with scrubTimer := some 10000 })).scrubPass = true := by decide +kernel

theorem test_scrub_mismatch :
    (after (exec (.scrubComplete (.altered [])) { demo with scrubPass := true })).firstCause = some .scrubMismatch := by decide +kernel

theorem test_clock_window : (after (exec .clockWindowEnd { demo with clockTicks := 979 })).mode = .halted ∧
    (after (exec .clockWindowEnd { demo with clockTicks := 1020 })).mode = .counting := by decide +kernel

theorem test_start_empty : (after (exec .startComplete { State.reset with opTimer := 100 })).mode = .unconfigured := by decide +kernel

theorem test_clearing : (after (exec .clearingComplete { filling with sub := .clearing, opTimer := 40, sectIndex := 3 })).sectIndex = 0 := by
  decide +kernel

theorem test_verify :
    let t := after (exec .verifyComplete { filling with mode := .verifying, sub := .none, image := throat, opTimer := 200 })
    t.mode = .awaitEndorse ∧ t.sects[2] = Sect.reset ∧ t.bounding[9] = [4, 6] := by decide +kernel

theorem test_svkey_inactive : (after (exec .svkeyInactive filling)).mode = .unconfigured := by decide +kernel

theorem test_endorse :
    let t := after (exec (.endorse .sl1 0x12345678#32) { demo with mode := .awaitEndorse, endorsed1 := false })
    t.mode = .counting ∧ t.sects[2] = Sect.reset ∧ t.scrubTimer = some 0 := by decide +kernel

theorem test_withdraw :
    let t := after (exec (.withdraw .sl0) demo)
    t.mode = .awaitEndorse ∧ t.sects[2].cause = .notCounting ∧ t.lc1.asked = [.change, .change, .change, .endorseLost] := by decide +kernel

theorem test_load_begin :
    let t := after (exec (.loadBegin true) { demo with mode := .awaitEndorse })
    (t.mode, t.sub) = (.loading, .clearing) ∧ t.inForce = none ∧ t.bounding[2] = [] ∧ t.heads[5].state = .unknown := by decide +kernel

theorem test_load_begin_locked : (after (exec (.loadBegin true) demo)).lcs.line.slot = some ⟨0x21#8, .refusedLocked, []⟩ := by
  decide +kernel

theorem test_load_index : (after (exec (.loadIndex true 1 9) filling)).sectIndex = 9 := by decide +kernel

theorem test_map_entry_wrong_index :
    (after (exec (.mapEntry true 11 [⟨14, .inOnN, false⟩]) { filling with mapIndex := 7 })).lcs.line.slot =
      some ⟨0x24#8, .refusedRange, []⟩ := by decide +kernel

theorem test_map_entry :
    let t := after (exec (.mapEntry true 11 [⟨14, .inOnN, false⟩]) { filling with mapIndex := 11 })
    t.mapIndex = 12 ∧ t.image.map[11] = ⟨[⟨14, .inOnN, false⟩]⟩ := by decide +kernel

theorem test_section_entry :
    let t := after (exec (.sectionEntry true 2 1 20 9) filling)
    t.image.sects[0] = ⟨.sl1, true, 15, 8⟩ ∧ t.lcs.line.slot = some ⟨0x25#8, .clamped, []⟩ := by decide +kernel

theorem test_global_entry :
    (after (exec (.globalEntry true ⟨5, 5, 20, 0, 1, 3, 90, 2, 3, 10⟩ ⟨0, 7⟩ ⟨2, 12⟩) filling)).lcs.line.slot =
      some ⟨0x26#8, .clamped, []⟩ := by decide +kernel

theorem test_load_end : (after (exec (.loadEnd true) filling)).mode = .verifying := by decide +kernel

theorem test_load_status : (after (exec .loadStatus demo)).lcs.line.slot =
    some ⟨0x22#8, .accepted, [5#8, 0#8, 0#8, 0#8, 0#8, 0#8, 0#8, 1#8, 0x12#8, 0x34#8, 0x56#8, 0x78#8]⟩ := by decide +kernel

theorem test_restart :
    let t := after (exec (.restart true) { demo with mode := .halted, firstCause := some .mapHard })
    t.mode = .starting ∧ t.firstCause = none ∧ t.stamp = 500#16 := by decide +kernel

theorem test_head_read : (after (exec (.headRead 5) (headAt (moving .r2 false true false true)))).lcs.line.slot =
    some ⟨0x29#8, .accepted, [5#8, 0#8, 0#8, 2#8]⟩ := by decide +kernel

theorem test_halt_read : (after (exec .haltRead { demo with firstCause := some .clockDeviation, softErrors := 2 })).lcs.line.slot =
    some ⟨0x2A#8, .accepted, [1#8, 0#8, 2#8]⟩ := by decide +kernel

/-- A character with the ones of its data and parity odd in number, and one without (R160). -/
theorem test_character : (after (exec (.characterReceived .svl ⟨0xA6#8, true, true⟩) demo)).lcs.line.rx = .receiving [0xA6#8] ∧
    (after (exec (.characterReceived .svl ⟨0xA6#8, false, true⟩) demo)).lcs.line.rx = .discarding := by decide +kernel

/-- The sync byte 0xA6 on a line: start bit low, 0 1 1 0 0 1 0 1, odd parity, stop bit high (R160). -/
theorem test_sent_levels : (List.range 11).map (Transmitter.sending (sentCharacters [0xA6#8])).level =
    [false, false, true, true, false, false, true, false, true, true, true] := by decide +kernel

/-- After TRANSMIT_END the line is held high for 22 bit times, and after GAP_END it rests high (R160, R167). -/
theorem test_line_rests_high :
    let sending := demo.setLine .svl { demo.lcs.line with tx := .sending (sentCharacters [0xA6#8]) }
    let gap := after (exec (.transmitEnd .svl) sending)
    let idle := after (exec (.gapEnd .svl) gap)
    gap.lcs.line.tx.bitTimes = some 22 ∧ (List.range 22).map gap.lcs.line.tx.level = List.replicate 22 true ∧
    idle.lcs.line.tx.bitTimes = none ∧ idle.lcs.line.tx.level 0 = true := by decide +kernel

/-- A line holding a telegram received whole. -/
def heard (bytes : List Byte) : State := demo.setLine .svl { demo.lcs.line with rx := .receiving bytes }

theorem test_telegram_end : (after (exec (.telegramEnd .svl) (heard [0xA6#8, 0x01#8, 0x22#8, 0x2A#8, 0x1E#8]))).lcs.handed =
    some .loadStatus := by decide +kernel

theorem test_telegram_end_bad :
    let t := after (exec (.telegramEnd .svl) (heard [0xA6#8, 0x01#8, 0x22#8, 0x2A#8, 0x1F#8]))
    t.lcs.handed = none ∧ t.lcs.line.lineFault = true := by decide +kernel

theorem test_response_start :
    let t := after (exec (.responseStart .svl) (demo.setLine .svl { demo.lcs.line with slot := some ⟨0x21#8, .refusedKey, []⟩ }))
    t.lcs.line.slot = none ∧ t.lcs.line.tx = .sending (sentCharacters (telegram 0x82#8 [0x21#8, 16#8, 0#8])) := by decide +kernel

/-- S14 OCCUPIED with a preparatory record that SL0 opened, and S2 CLEAR, as SL0 sees them: 1 + 8 + 16 + 64 (R171). -/
theorem test_status_start :
    let s := (sectAt 14 (occupied 2)).setRecord 14 (some ⟨.prep, .sl0, 0⟩)
    let t := after (exec (.statusStart .sl0) (s.setSup .sl0 { s.lc0 with statusDue := true, notices := 257#10 }))
    t.lc0.line.tx = .sending (sentCharacters (telegram 0x81#8 [5#8, 1#8, 1#8, 0#8, 2#8, 0#8, 14#8, 89#8])) ∧ t.lc0.statusDue = false := by decide +kernel

theorem test_events_start :
    let t := after (exec (.eventsStart .sl0)
      (demo.setSup .sl0 { demo.lc0 with ring := List.replicate 7 ⟨7#8, 5, .r, 258#16⟩, gap := true }))
    t.lc0.ring.length = 1 ∧ t.lc0.gap = false ∧ (match t.lc0.line.tx with | .sending b => b.length | _ => 0) = 37 := by decide +kernel

theorem test_transmit_end : (after (exec (.transmitEnd .svl) (demo.setLine .svl { demo.lcs.line with tx := .sending [] }))).lcs.line.tx =
    .gap := by decide +kernel

theorem test_gap_end : (after (exec (.gapEnd .svl) (demo.setLine .svl { demo.lcs.line with tx := .gap }))).lcs.line.tx = .idle := by
  decide +kernel

theorem test_report_expiry : (after (exec (.reportTimerExpiry .sl0) (demo.setSup .sl0 { demo.lc0 with reportTimer := 128 }))).lc0.statusDue =
    true := by decide +kernel

theorem test_line_rate :
    (after (exec (.lineRateChange .sl1 .receive) { demo with image := { throat with params1 := ⟨3, 7⟩ } })).lc1.line.rxRate = 115200 := by
  decide +kernel

theorem test_notice_set : (after (exec (.noticeSet .sl0 .halt)
      (demo.setSup .sl0 { demo.lc0 with asked := [.change, .halt], mask := 128#10, attnMode := .pulse }))).lc0 =
    { demo.lc0 with asked := [.change], mask := 128#10, attnMode := .pulse, notices := 128#10, attn := true, pulse := some 0 } := by
  decide +kernel

theorem test_notice_ack : (after (exec (.noticeAck .sl0 3#16)
      (demo.setSup .sl0 { demo.lc0 with notices := 7#10, mask := 3#10, attn := true }))).lc0.notices = 4#10 := by decide +kernel

theorem test_notice_mask : (after (exec (.noticeMask .sl0 4#16 0) (demo.setSup .sl0 { demo.lc0 with notices := 7#10 }))).lc0.attn = true := by
  decide +kernel

theorem test_attn_pulse_end :
    (after (exec (.attnPulseEnd .sl0) (demo.setSup .sl0 { demo.lc0 with attn := true, pulse := some 10 }))).lc0.attn = false := by
  decide +kernel

theorem test_power_on : (after (exec .powerOn { demo with pending := [.haltRead] })).pending = [.haltRead] ∧
    (after (exec .powerOn demo)).mode = .starting := by decide +kernel

/-- Every detection point at rest. -/
def quiet : Vector Sample 32 := Vector.replicate 32 ⟨false, false, false⟩

/-- The ninth step of a group of ten gives no tick, the tenth does (R1). -/
theorem test_sampling_step : (after (exec (.samplingStep quiet) { State.reset with stepNo := 8 })).stamp = 0#16 ∧
    (after (exec (.samplingStep quiet) { State.reset with stepNo := 9 })).stamp = 1#16 := by decide +kernel

/-- A damped level first seen raises the candidate count (chapter 1's qualification table). -/
theorem test_sampling_candidate :
    (after (exec (.samplingStep (quiet.set 5 ⟨true, false, false⟩)) State.reset)).heads[5].cand1 = 1 := by decide +kernel

/-! ### Hypotheses met: the block and the Timebase -/

theorem test_met_StepRunsFrontCommand : ({ demo with pending := [.haltRead, .powerOn] } : State).pending = .haltRead :: [.powerOn] ∧
    demo.pending = [] := ⟨rfl, rfl⟩

theorem test_met_CommandsComplete : Instr.haltRead ≠ .powerOn ∧ ∀ x, Instr.haltRead ≠ .samplingStep x :=
  ⟨by decide, fun _ h => by cases h⟩

/-- Power lost in VERIFYING under a legal image, and elsewhere. -/
theorem test_met_PowerOnResult : Image.default.firstOffence = none ∧ ({ filling with mode := .verifying } : State).mode = .verifying ∧
    filling.mode ≠ .verifying := by decide +kernel

theorem test_met_SamplingStepResult : ({ demo with stepNo := 999 } : State).stepNo + 1 = 1000 := rfl

/-- With no tick, and with one. -/
theorem test_met_SamplingWithNothingDue : demo.takeDue = demo ∧
    ({ demo with stepNo := 5009 } : State).takeDue = { demo with stepNo := 5009 } ∧ (5000 + 1) % 10 ≠ 0 ∧ (5009 + 1) % 10 = 0 := by
  decide +kernel

/-! ### Hypotheses met: heads -/

/-- A head whose last counted axle lies a number of steps back, under MIN_FREE 100 ms. -/
def spaced (steps : Nat) : State :=
  let s : State := { demo with image := { throat with globals := { g0 with minFree := 100 } } }
  s.setHead 5 { moving .free false false true false with lastAxle := some (5000 - steps) }

theorem test_met_DepartureResult :
    (∀ s ∈ [headAt (moving .free false false true false), headAt (moving .free false false false true), spaced 999, spaced 1000],
      let h := s.heads[5]
      s.mode.running = true ∧ h.state = .free ∧ h.q1 = false ∧ h.q2 = false ∧ h.faultIn = false ∧ h.glitches = 0 ∧
        (h.changed1 s.qual != h.changed2 s.qual) = true) ∧
    (headAt (moving .free false false true false)).heads[5].lastAxle = none ∧
    (spaced 999).heads[5].lastAxle = some 4001 ∧ (spaced 999).stepNo - 4001 < (spaced 999).image.globals.minFree * 10 ∧
    (spaced 1000).heads[5].lastAxle = some 4000 ∧ ¬ (spaced 1000).stepNo - 4000 < (spaced 1000).image.globals.minFree * 10 := by
  decide +kernel

theorem test_met_PassageMoves :
    ∀ m ∈ [(moving .n1 true false true true, (true, true)), (moving .n2 true true false true, (false, true)),
        (moving .n2 true true true false, (true, false)), (moving .n3 false true true true, (true, true)),
        (moving .r2 false true true true, (true, true)), (moving .r3 true true true false, (true, false)),
        (moving .r3 true true false true, (false, true)), (moving .r4 true false true true, (true, true)),
        (moving .n1 true false false false, (false, false)), (moving .r2 false true false false, (false, false))],
      let s := headAt m.1
      let h := s.heads[5]
      let g := h.requalify s.qual
      s.mode.running = true ∧ h.faultIn = false ∧ h.glitches = 0 ∧ (h.changed1 s.qual != h.changed2 s.qual) = true ∧
        (g.q1, g.q2) = m.2 := by decide +kernel

/-- A passage of just MIN_PASSAGE, 20 steps, and one of a step less. -/
theorem test_met_CountingReturnResult :
    ∀ m ∈ [(moving .n3 false true false false, 4980), (moving .r4 true false false false, 4981)],
      let s := headAt { m.1 with passageStart := some m.2 }
      let h := s.heads[5]
      let g := h.requalify s.qual
      s.mode.running = true ∧ h.faultIn = false ∧ h.glitches = 0 ∧ (h.changed1 s.qual != h.changed2 s.qual) = true ∧
        (g.q1, g.q2) = (false, false) ∧ h.passageStart = some m.2 ∧ (s.stepNo - m.2 = 20 ∨ s.stepNo - m.2 = 19) := by decide +kernel

/-- Both channels change; one changes under an active fault input; one changes while the other glitches, to 8 of 8 and to 7 of 8. -/
theorem test_met_ChangeWithOtherEvents :
    let both := headAt (moving .free false false true true)
    let faulty := headAt { moving .n1 true false true true with faultIn := true }
    let noisy := fun (n : Nat) => headAt { moving .n1 true false true true with cand1 := 2, bucket := n }
    (∀ s ∈ [both, faulty, noisy 7, noisy 6], s.mode.running = true ∧ s.heads[5].state.follows = true ∧
      (s.heads[5].changed1 s.qual || s.heads[5].changed2 s.qual) = true) ∧
    both.heads[5].changed1 both.qual = true ∧ both.heads[5].changed2 both.qual = true ∧ both.heads[5].faultIn = false ∧
    faulty.heads[5].faultIn = true ∧
    (∀ s ∈ [noisy 7, noisy 6], s.heads[5].faultIn = false ∧ 0 < s.heads[5].glitches) ∧
    (noisy 7).image.globals.glitchLimit ≤ (noisy 7).heads[5].bucket + (noisy 7).heads[5].glitches ∧
    (noisy 6).heads[5].bucket + (noisy 6).heads[5].glitches < (noisy 6).image.globals.glitchLimit := by decide +kernel

/-- UNKNOWN, FAULT and a held mode with a channel at QUAL; and a channel one step short of it. -/
theorem test_met_ChangeOfLevelsAlone :
    (∀ s ∈ [headAt (moving .unknown false false true false), headAt (moving .fault true true true false),
        { headAt (moving .unknown false false true false) with mode := .loading }],
      let h := s.heads[5]
      ((h.raw1 ≠ h.q1 ∧ s.qual ≤ h.cand1) ∨ (h.raw2 ≠ h.q2 ∧ s.qual ≤ h.cand2)) ∧
        (s.mode.running = false ∨ (h.faultIn = false ∧ (h.state = .unknown ∨ h.state = .fault)))) ∧
    (∀ x ∈ [HeadState.unknown, .fault], let s := headAt { moving x false false true false with faultIn := true }
      s.heads[5].raw1 ≠ s.heads[5].q1 ∧ s.qual ≤ s.heads[5].cand1 ∧ s.mode.running = true ∧ s.heads[5].faultIn = true ∧
        s.heads[5].state = x) ∧
    (let s := headAt { moving .free false false true false with cand1 := 4 }
     ¬ (s.heads[5].raw1 ≠ s.heads[5].q1 ∧ s.qual ≤ s.heads[5].cand1) ∧ ¬ (s.heads[5].raw2 ≠ s.heads[5].q2 ∧ s.qual ≤ s.heads[5].cand2)) := by
  decide +kernel

theorem test_met_GlitchResult :
    (demo.heads[5].glitches = 0) ∧
    (∀ n ∈ [6, 7], let s := headAt { atRest with cand1 := 2, bucket := n }
      s.heads[5].glitches = 1 ∧ s.mode.running = true ∧ s.heads[5].faultIn = false ∧ s.heads[5].state.follows = true) ∧
    (∀ x ∈ [HeadState.n2, .unknown, .fault], let s := headAt { atRest with state := x, cand1 := 2, faultIn := true }
      s.heads[5].glitches = 1 ∧ s.mode.running = true ∧ s.heads[5].faultIn = true ∧ s.heads[5].state = x) ∧
    6 + 1 < g0.glitchLimit ∧ g0.glitchLimit ≤ 7 + 1 ∧ (headAt { atRest with state := .fault, cand2 := 1 }).heads[5].glitches = 1 ∧
    HeadState.fault.follows = false := by decide +kernel

theorem test_met_BucketDrainResult : demo.drainDue = false ∧ ({ demo with drainDue := true } : State).drainDue = true := by decide +kernel

theorem test_met_FrontEndFaultResult :
    (∀ s ∈ [headAt { atRest with faultIn := true }, headAt { atRest with state := .fault, faultIn := true }],
      s.mode.running = true ∧ s.heads[5].faultIn = true) ∧ demo.heads[5].faultIn = false := by decide +kernel

/-- The recovery timer at RECOVERY, 3 s, and one step short of it. -/
theorem test_met_RecoveryResult :
    (∀ m ∈ [HeadState.fault, .unknown], let s := headAt { atRest with state := m, recovery := 30000 }
      s.mode.running = true ∧ s.heads[5].state = m ∧ s.image.globals.recovery * 10000 ≤ s.heads[5].recovery) ∧
    ¬ demo.image.globals.recovery * 10000 ≤ (headAt { atRest with state := .fault, recovery := 29999 }).heads[5].recovery := by
  decide +kernel

/-! ### Hypotheses met: counts, sections and histories -/

/-- Every row of the table of counting, at the counts where its clauses change; with the clauses on the settle timer. -/
theorem test_met_CountingTable :
    ((countFits .clear 0 ∧ countFits .settling 0 ∧ countFits .restoring 0) ∧
      (countFits .occupied 1 ∧ countFits .occupied 2 ∧ countFits .occupied 2047) ∧
      (countFits .sweeping 1 ∧ countFits .sweeping 2 ∧ countFits .sweeping 2047) ∧
      (countFits .disturbed 0 ∧ countFits .disturbed 2047)) ∧
    (countTable .occupied 2047 true).2.2 = some .saturation ∧ (countTable .clear 0 true).2.2 = none ∧
    (let y := Sect.countOut 5 true (occupied 1)
     y.state = .settling ∧ (occupied 1).state ≠ .settling ∧ (occupied 1).settle = none) ∧
    (Sect.countIn 5 (occupied 1)).state ≠ .settling :=
  ⟨⟨⟨rfl, rfl, rfl⟩, ⟨by unfold countFits; omega, by unfold countFits; omega, by unfold countFits; omega⟩,
    ⟨by unfold countFits; omega, by unfold countFits; omega, by unfold countFits; omega⟩,
    ⟨by unfold countFits; omega, by unfold countFits; omega⟩⟩, by decide⟩

/-- An axle event at the head of DP5's outbox. -/
def axleAt : State := headAt { atRest with outbox := [.axle ⟨5, .n, 9#16⟩, .classChange .free] }

theorem test_met_AppliedAxleResult :
    let ts := axleAt.image.map[5].terms
    axleAt.mode = .counting ∧ axleAt.heads[5].outbox = .axle ⟨5, .n, 9#16⟩ :: [.classChange .free] ∧
      axleAt.codes[5] = some (entryCode 5 axleAt.image.map[5]) ∧ (ts.map (·.sect)).Nodup ∧
      (∀ x ∈ ts, axleAt.used x.sect = true) ∧ ts.map (·.sect) = [2, 3] := by decide +kernel

/-- An event taken outside COUNTING, none to take, and one whose first read fails, with the soft error count short of the limit and at it. -/
theorem test_met_UnappliedAxleResult :
    ({ axleAt with mode := .halted } : State).mode ≠ .counting ∧ demo.heads[5].outbox = [] ∧
    0#8 ≠ entryCode 5 ⟨[]⟩ ∧ axleAt.readPasses 5 .intact = true ∧ axleAt.softErrors + 1 < axleAt.image.globals.softLimit ∧
    ({ axleAt with softErrors := 2 } : State).softErrors + 1 = axleAt.image.globals.softLimit := by decide +kernel

/-- The last slot, at ages on each side of 8. -/
theorem test_met_HistorySlots : 7 < 8 ∧ ((13#16).toNat + 65536 - (6#16).toNat) % 65536 = 7 ∧
    ((0#16).toNat + 65536 - (65528#16).toNat) % 65536 = 8 := by decide

/-- Each class at the front of the outbox, and sections that each clause concerns. -/
theorem test_met_HeadClassChangeResult :
    (∀ c ∈ [HeadClass.notFree, .free, .fault],
      (headAt { atRest with outbox := [.classChange c] }).heads[5].outbox = .classChange c :: []) ∧
    (5 ∈ demo.bounding[2] ∧ demo.sects[2].state = .clear) ∧
    (let s := sectAt 3 { clear with state := .settling, settle := some 3 }
     (5 ∈ s.bounding[3]) ∧ s.sects[3].state = .settling) ∧
    (let s := sectAt 3 { clear with state := .settling }
     s.sects[3].settle = none ∧ s.viewFree 3 = true) ∧
    (demo.used 2 = true ∧ demo.sects[2].state ≠ .disturbed) ∧ demo.heads[5].outbox = [] := by decide +kernel

/-- S3's settle time is 700 ms. -/
theorem test_met_SettleExpiryResult :
    (demo.image.globals.settleBase + demo.image.sects[3].settleExt) * 100 = 700 ∧
    (sectAt 3 { clear with state := .settling, settle := some 700 }).sects[3].settle = some 700 ∧
    demo.sects[3].settle = none := by decide +kernel

/-- 24 supervised sections under REPORT_EXP 4: 19,200 bit/s raises the period, 115,200 bit/s does not. -/
theorem test_met_ReportAndHistoryPeriods :
    let full := fun (rate : Nat) => { demo with image :=
      { throat with sects := Vector.replicate 24 ⟨.shared, false, 0, 0⟩, params0 := ⟨rate, 4⟩ } }
    (demo.inForce.isSome = true ∧ 2 ^ demo.image.globals.histExp * 1000 = 4000) ∧ demo.reportPeriod .sl0 = 128 ∧
    ((full 0).supervised .sl0).length = 24 ∧ 16 * rateOf 0 < ((9 + 2 * 24) * 11 + 22) * 1000 ∧
    ((9 + 2 * 24) * 11 + 22) * 1000 ≤ 16 * rateOf 3 ∧ (full 0).reportPeriod .sl0 = 64 ∧ (full 3).reportPeriod .sl0 = 16 ∧
    State.reset.inForce = none := by decide +kernel

/-! ### Hypotheses met: resets -/

/-- Nothing is handed on and every slot is empty: every request is free to be taken. -/
theorem test_met_ready : (demo.sup .sl0).handed = none ∧ (demo.sup .sl0).line.slot = none ∧ (demo.sup .sl1).handed = none ∧
    (demo.sup .sl1).line.slot = none ∧ demo.lcs.handed = none ∧ demo.lcs.line.slot = none ∧ filling.lcs.handed = none ∧
    filling.lcs.line.slot = none := by decide +kernel

theorem test_met_ResetRefusals :
    ({ demo with mode := .halted } : State).mode ≠ .counting ∧ demo.used 0 = false ∧
    (demo.used 3 = true ∧ demo.supervises .sl0 3 = false) ∧
    (demo.supervises .sl0 2 = true ∧ demo.sects[2].state ≠ .occupied ∧ demo.sects[2].state ≠ .disturbed) ∧
    (let s := sectAt 3 (occupied 1)
     s.supervises .sl1 3 = true ∧ s.records[3] = none ∧ validation s .direct 3 = some .refusedNotPermitted) ∧
    validation (sectAt 2 { occupied 1 with flags := 4#8 }) .direct 2 = some .refusedRecentTraffic ∧
    validation (sectAt 2 { occupied 1 with flags := 8#8 }) .direct 2 = none ∧
    validation (headAt { atRest with state := .fault }) .prep 2 = some .refusedHead := by decide +kernel

theorem test_met_FirstResetRequestResult :
    (∀ m ∈ [((2 : SectNo), SupLink.sl0, ResetKind.direct), (2, .sl0, .prep), (14, .sl1, .prep), (14, .sl0, .direct)],
      let s := sectAt m.1 (occupied 1)
      s.mode = .counting ∧ s.used m.1 = true ∧ s.supervises m.2.1 m.1 = true ∧ s.sects[m.1].state = .occupied ∧
        s.records[m.1] = none ∧ validation s m.2.2 m.1 = none) ∧
    demo.image.supervision 2 ≠ .shared ∧ demo.image.supervision 14 = .shared := by decide +kernel

/-- S14 with a preparatory record that SL1 opened. -/
def opened : State := (sectAt 14 (occupied 1)).setRecord 14 (some ⟨.prep, .sl1, 19999⟩)

theorem test_met_SecondRequestResult :
    opened.mode = .counting ∧ opened.used 14 = true ∧ opened.image.supervision 14 = .shared ∧
    opened.sects[14].state = .occupied ∧ opened.records[14] = some ⟨.prep, .sl1, 19999⟩ ∧ SupLink.sl1 ≠ .sl0 ∧
    ResetKind.prep ≠ .direct ∧ validation opened .prep 14 = none ∧
    validation (opened.setHead 11 { atRest with state := .n1 }) .prep 14 = some .refusedHead := by decide +kernel

theorem test_met_CancelResult : ({ opened with mode := .halted } : State).mode ≠ .counting ∧ opened.used 0 = false ∧
    (opened.used 3 = true ∧ opened.supervises .sl0 3 = false) ∧ (opened.used 14 = true ∧ opened.supervises .sl1 14 = true) ∧
    opened.records[14] = some ⟨.prep, .sl1, 19999⟩ ∧ opened.records[9] = none := by decide +kernel

/-- CONCUR_WINDOW is 20,000 ms; the record is at it. -/
theorem test_met_WindowExpiryResult : opened.image.globals.concurWindow * 1000 = 20000 ∧
    (opened.setRecord 14 (some ⟨.prep, .sl1, 20000⟩)).records[14] = some ⟨.prep, .sl1, 20000⟩ := by decide +kernel

/-- A settle timer and a window timer one tick short, and no record. -/
theorem test_met_ExpiriesNotYetDue : (sectAt 3 { clear with state := .settling, settle := some 699 }).sects[3].settle = some 699 ∧
    opened.records[14] = some ⟨.prep, .sl1, 19999⟩ ∧ opened.records[2] = none := by decide +kernel

theorem test_met_SectionDetailResult : opened.used 0 = false ∧ opened.used 14 = true ∧ opened.records[14] = some ⟨.prep, .sl1, 19999⟩ ∧
    opened.image.globals.concurWindow ≤ 60 ∧ 19999 < opened.image.globals.concurWindow * 1000 ∧ opened.records[2] = none := by
  decide +kernel

/-! ### Hypotheses met: integrity -/

/-- A scrub timer at SCRUB_PERIOD, 10,000 ms, and one short of it; a pass that reads the signature and one that does not; windows of 979, 980,
1020 and 1021 ticks. -/
theorem test_met_ScrubAndClockResults :
    demo.image.globals.scrubPeriod * 1000 = 10000 ∧ ({ demo with scrubTimer := some 10000 } : State).scrubTimer = some 10000 ∧
    ({ demo with scrubTimer := some 9999 } : State).scrubTimer = some 9999 ∧
    (let s : State := { demo with scrubPass := true, inForce := some (signatureOf [1#8]) }
     s.scrubPass = true ∧ s.inForce = some (signatureOf [1#8]) ∧ s.inForce ≠ some (signatureOf [2#8]) ∧ s.mode = .counting ∧
       { s with mode := Mode.halted }.mode = .halted) ∧ demo.scrubPass = false ∧
    (979 < 980 ∧ 980 ≤ 980 ∧ 980 ≤ 1020 ∧ 1020 ≤ 1020 ∧ 1021 ≤ 1021) ∧ filling.mode ≠ .counting ∧ filling.mode ≠ .halted := by
  decide +kernel

/-- SL1 supervises a section that changes at a halt; with S14 and S2 DISTURBED, SL0 does not. -/
theorem test_met_HaltEntryEffects : (demo.supervises .sl1 3 = true ∧ demo.sects[3].state ≠ .disturbed) ∧
    (let s := { demo with sects := (demo.sects.set 2 Sect.reset).set 14 Sect.reset }
     ∀ k : SectNo, s.supervises .sl0 k = true → s.sects[k].state = .disturbed) ∧
    ({ demo with mode := .halted } : State).mode = .halted ∧ HaltCause.mapHard.code < HaltCause.scrubMismatch.code ∧ HaltCause.mapHard.code ≤ HaltCause.mapHard.code := by decide +kernel

/-! ### Hypotheses met: the service link, modes and the image -/

theorem test_met_ServiceReadResults : ((31 : DP).val = 31 ∧ 31 < 32) ∧ demo.offending = none ∧
    ({ demo with offending := some ⟨.map, 9, .duplicateSection⟩ } : State).offending = some ⟨.map, 9, .duplicateSection⟩ ∧
    State.reset.inForce = none ∧ demo.inForce = some 0x12345678#32 := by decide +kernel

/-- Each operation at its end; a good store, an empty one and a bad one; a legal image and an illegal one. -/
theorem test_met_TimedOperations :
    (State.reset.mode = .starting ∧ 100 ≤ ({ State.reset with opTimer := 100 } : State).opTimer ∧ State.reset.store = none) ∧
    (filling.mode = .loading ∧ ({ filling with sub := .clearing, opTimer := 40 } : State).sub = .clearing) ∧
    throat.firstOffence = none ∧
    ({ throat with sects := Image.default.sects } : Image).firstOffence = some ⟨.map, 4, .unusedSection⟩ ∧
    ¬ (filling.mode = .starting ∧ 100 ≤ filling.opTimer) := by decide +kernel

theorem signature_ne_next (g : Signature) : g ≠ g + 1#32 := by
  intro h
  have h1 := congrArg BitVec.toNat h
  have h2 := g.isLt
  rw [BitVec.toNat_add] at h1
  simp at h1
  omega

/-- A stored signature that is the image's own, and one that is not. -/
theorem test_met_TimedOperations_store : signatureOf throat.canonical = throat.signature ∧ ∃ g, signatureOf throat.canonical ≠ g :=
  ⟨rfl, signatureOf throat.canonical + 1#32, signature_ne_next _⟩

/-- An illegal image of each kind, and a legal one. -/
theorem test_met_LegalityJudgement : throat.firstOffence = none ∧
    ({ throat with map := throat.map.set 5 ⟨[⟨2, .inOnN, false⟩, ⟨2, .inOnR, true⟩]⟩ } : Image).firstOffence =
      some ⟨.map, 5, .duplicateSection⟩ ∧
    ({ throat with map := throat.map.set 31 ⟨[⟨0, .inOnN, false⟩]⟩ } : Image).firstOffence = some ⟨.map, 31, .unusedSection⟩ ∧
    ({ throat with sects := throat.sects.set 23 ⟨.sl0, false, 0, 0⟩ } : Image).firstOffence = some ⟨.sect, 23, .noBoundary⟩ := by
  decide +kernel

theorem test_met_KeyAndServiceRefusals : filling.mode = .loading ∧ demo.mode ≠ .loading ∧
    State.reset.mode = .starting ∧ ({ filling with mode := .verifying } : State).mode = .verifying ∧ demo.mode = .counting ∧
    ({ filling with mode := .unconfigured } : State).mode = .unconfigured ∧
    ({ filling with sub := .clearing } : State).sub = .clearing := by decide +kernel

theorem test_met_LoadBeginResult : filling.mode = .loading ∧ filling.mode.running = false ∧
    ({ demo with mode := .halted } : State).mode = .halted ∧ ({ demo with mode := .halted } : State).mode.running = true ∧
    ({ demo with mode := .halted } : State).inForce.isSome = true := by decide +kernel

theorem test_met_RestartResult : ({ filling with mode := .unconfigured } : State).mode = .unconfigured ∧
    ({ demo with mode := .awaitEndorse } : State).mode = .awaitEndorse := by decide +kernel

/-- Both tables at their last index and one past it, and a table that is none. -/
theorem test_met_LoadIndexAndEnd : filling.mode = .loading ∧ filling.sub = .filling ∧ 31 ≤ 31 ∧ 23 ≤ 23 ∧ 31 < 32 ∧ 23 < 24 ∧ 1 < 2 := by
  decide +kernel

/-- An entry of four terms at the index, a fifth term, a wrong index, a section past the last and a detection point past the last. -/
theorem test_met_MapEntryResult :
    let four : List WireTerm := [⟨23, .inOnN, false⟩, ⟨0, .inOnR, true⟩, ⟨1, .inOnN, false⟩, ⟨2, .inOnN, false⟩]
    let s := { filling with mapIndex := 31 }
    s.mode = .loading ∧ s.sub = .filling ∧ (31 : DP).val = s.mapIndex ∧ four.length ≤ 4 ∧ (∀ t ∈ four, t.sect ≤ 23) ∧
      4 < (⟨3, .inOnN, false⟩ :: four).length ∧ 30 ≠ s.mapIndex ∧ (∃ t ∈ [(⟨24, .inOnN, false⟩ : WireTerm)], 23 < t.sect) ∧ 31 < 32 := by
  decide +kernel

/-- The last section entry, the index past it, and codes at and past their ends. -/
theorem test_met_SectionAndGlobalEntries :
    let s := { filling with sectIndex := 23 }
    s.mode = .loading ∧ s.sub = .filling ∧ (23 : SectNo).val = s.sectIndex ∧ Supervision.shared.code = 3 ∧ 1 ≤ 1 ∧
      23 < ({ filling with sectIndex := 24 } : State).sectIndex ∧ 3 < 4 ∧ 1 < 2 := by decide +kernel

theorem test_met_EndorseResult :
    let s := { demo with mode := .awaitEndorse, endorsed0 := false, endorsed1 := false }
    s.mode = .awaitEndorse ∧ s.inForce = some 0x12345678#32 ∧ s.inForce ≠ some 0#32 ∧ s.endorsed .sl1 = false ∧
      ({ s with endorsed1 := true } : State).endorsed .sl1 = true ∧ demo.mode = .counting ∧ filling.mode ≠ .awaitEndorse ∧
      filling.mode ≠ .counting := by decide +kernel

theorem test_met_WithdrawResult : demo.mode = .counting ∧ filling.mode ≠ .counting := by decide +kernel

/-! ### Hypotheses met: links -/

/-- A whole character, one with a parity error and one with a framing error; 63 and 64 bytes held. -/
theorem test_met_CharacterResult :
    goodCharacter ⟨0xA6#8, true, true⟩ = true ∧ goodCharacter ⟨0xA6#8, false, true⟩ = false ∧
    goodCharacter ⟨0xA6#8, true, false⟩ = false ∧ demo.lc0.line.rx = .idle ∧
    (heard (List.replicate 63 0#8)).lcs.line.rx = .receiving (List.replicate 63 0#8) ∧ (List.replicate 63 0#8).length < 64 ∧
    64 ≤ (List.replicate 64 0#8).length ∧ (demo.setLine .svl { demo.lcs.line with rx := .discarding }).lcs.line.rx = .discarding := by
  decide +kernel

/-- The first and last kinds of each link, and payloads of 0 and 59 bytes. -/
theorem test_met_AcceptedTelegrams :
    takesKind (.sup .sl0) 0x11#8 = true ∧ takesKind (.sup .sl1) 0x18#8 = true ∧ takesKind .svl 0x21#8 = true ∧
    takesKind .svl 0x2A#8 = true ∧ takesKind .svl 0x20#8 = false ∧ (List.replicate 59 0#8).length ≤ 59 ∧
    acceptTelegram .svl [0xA6#8, 0x01#8, 0x22#8, 0x2A#8, 0x1E#8] = some (0x22#8, []) := by decide +kernel

theorem test_met_PayloadsReadBack :
    supFits (.noticeMask 0xFFFF#16 255) = true ∧ svcFits (.mapEntry 255 (List.replicate 28 ⟨255, .inOnR, true⟩)) = true ∧
    parseSup 0x16#8 [0xFF#8, 0xFF#8, 0xFF#8] = some (.noticeMask 0xFFFF#16 255) ∧
    parseSvc 0x24#8 [31#8, 1#8, 23#8, 3#8] = some (.mapEntry 31 [⟨23, .inOnR, true⟩]) ∧ [31#8, 1#8, 23#8, 3#8].length ≤ 59 := by
  decide +kernel

/-- A telegram accepted with the slot empty and occupied, one malformed, one rejected, one discarded and none. -/
theorem test_met_TelegramEndResult :
    acceptTelegram (.sup .sl0) (telegram 0x11#8 [2#8]) = some (0x11#8, [2#8]) ∧ parseSup 0x11#8 [2#8] = some (.resetPrep 2) ∧
    parseSup 0x11#8 [] = none ∧ acceptTelegram (.sup .sl0) (telegram 0x21#8 []) = none ∧
    acceptTelegram .svl (telegram 0x21#8 []) = some (0x21#8, []) ∧ parseSvc 0x21#8 [] = some .loadBegin ∧
    parseSvc 0x21#8 [0#8] = none ∧ demo.lc0.line.slot = none ∧ demo.lc0.handed = none ∧
    ({ demo.lc0 with handed := some .withdraw } : Sup).handed.isSome = true := by decide +kernel

theorem test_met_OverrunResult :
    let busy := demo.setSup .sl0 { demo.lc0 with line := { demo.lc0.line with slot := some ⟨0x18#8, .accepted, []⟩ } }
    let handed := demo.setSup .sl0 { demo.lc0 with handed := some (.endorse 0#32) }
    let serviceBusy := { filling with lcs := { filling.lcs with handed := some .restart } }
    ((busy.sup .sl0).handed ≠ some .withdraw ∧ (busy.sup .sl0).line.slot.isSome = true) ∧
    ((handed.sup .sl0).handed ≠ some (.endorse 1#32) ∧ (handed.sup .sl0).handed.isSome = true) ∧
    serviceBusy.lcs.handed ≠ some .loadEnd ∧ serviceBusy.lcs.handed.isSome = true := by decide +kernel

/-- A LOAD_END under an inactive key that finds the slot occupied leaves the load as it is (R166). -/
theorem test_overrun_keeps_load :
    let s := filling.setLine .svl { filling.lcs.line with slot := some ⟨0x22#8, .accepted, []⟩ }
    let t := after (exec (.loadEnd false) s)
    t.mode = .loading ∧ t.sub = .filling ∧ t.svkey = s.svkey ∧ t.lcs.line.overrun = true := by decide +kernel

/-- A response, a status and events that wait, alone; and a transmitter in its gap. -/
theorem test_met_TransmitStarts :
    (demo.lc0.line.tx = .idle ∧ demo.lc0.line.slot = none ∧ demo.lc0.statusDue = false ∧ demo.lc0.ring = []) ∧
    ({ demo.lc0.line with slot := some ⟨0x18#8, .accepted, []⟩ } : Line).slot = some ⟨0x18#8, .accepted, []⟩ ∧
    ({ demo.lc0 with statusDue := true } : Sup).statusDue = true ∧ ({ demo.lc0 with ring := [⟨0#8, 5, .n, 0#16⟩] } : Sup).ring ≠ [] ∧
    ({ demo.lc0.line with tx := .gap } : Line).tx ≠ .idle := by decide +kernel

theorem test_met_EndsAndRates : ({ demo.lc0.line with tx := .sending (sentCharacters [0#8]) } : Line).tx = .sending (sentCharacters [0#8]) ∧
    ({ demo.lc0.line with tx := .gap } : Line).tx = .gap ∧ demo.lc0.line.tx ≠ .gap ∧ demo.lc0.line.rx = .idle ∧
    ({ demo.lc0.line with rx := .discarding } : Line).rx ≠ .idle := by decide +kernel

/-- A notice asked for, not asked for, set already, and clear in each attention mode with its mask bit set and clear; a pulse of ten steps and one of nine. -/
theorem test_met_NoticesAndAttention :
    let x := { demo.lc0 with asked := [.halt], mask := 128#10 }
    .halt ∈ x.asked ∧ .change ∉ x.asked ∧ x.notices &&& (1#10 <<< noticeBit .halt) = 0#10 ∧
    ({ x with notices := 128#10 } : Sup).notices &&& (1#10 <<< noticeBit .halt) ≠ 0#10 ∧ x.attnMode = .level ∧
    ({ x with attnMode := .pulse } : Sup).attnMode = .pulse ∧ x.mask &&& (1#10 <<< noticeBit .halt) ≠ 0#10 ∧
    demo.lc0.mask &&& (1#10 <<< noticeBit .halt) = 0#10 ∧ ({ x with pulse := some 10 } : Sup).pulse = some 10 ∧ 9 < 10 := by
  decide +kernel

/-- Rings of 31, 32 and 63 records, a full ring, and one that holds the number again after 256 offers. -/
theorem test_met_RingOfferResult :
    let ring := fun (n : Nat) => (List.range n).map fun i => (⟨BitVec.ofNat 8 i, 5, .n, 0#16⟩ : EventRecord)
    (∀ n ∈ [31, 63], (ring n).length < 64 ∧ BitVec.ofNat 8 n ∉ (ring n).map (·.seq) ∧ (ring n).length ≠ 32) ∧
    ((ring 32).length = 32 ∧ 32#8 ∉ (ring 32).map (·.seq)) ∧ 64 ≤ (ring 64).length ∧ 0#8 ∈ (ring 1).map (·.seq) := by decide +kernel

/-! ### Hypotheses met: the laws -/

/-- The demonstration state with a shared section OCCUPIED under an open record, and a command waiting. -/
def lawful : State := { opened with pending := [.concurWindowExpiry 14] }

theorem test_met_step : ∃ t, step lawful = .next t := ⟨_, rfl⟩

theorem test_met_SectionLawKept : SectionLaw lawful where
  force := by decide +kernel
  unused := by decide +kernel
  held := by decide +kernel
  count := by
    have h : ∀ k : SectNo, (lawful.sects[k].state = .disturbed ∨ lawful.sects[k].state = .clear) ∧ lawful.sects[k].count = 0 ∨
        lawful.sects[k].state = .occupied ∧ lawful.sects[k].count = 1 := by decide +kernel
    intro k
    rcases h k with ⟨h1 | h1, h2⟩ | ⟨h1, h2⟩ <;> rw [h1, h2] <;> unfold countFits <;> omega
  cause := by decide +kernel
  causeDP := by decide +kernel
  settle := by decide +kernel
  elapsed := by
    have h : ∀ k : SectNo, lawful.sects[k].settle = none := by decide +kernel
    intro k e he
    rw [h k] at he
    cases he
  clear := by decide +kernel

theorem test_met_RecordLawKept : RecordLaw lawful ∧ lawful.records[14] = some ⟨.prep, .sl1, 19999⟩ := by
  refine ⟨fun k r hr => ?_, by decide +kernel⟩
  have h : ∀ k : SectNo, k ≠ 14 → lawful.records[k] = none := by decide +kernel
  by_cases hk : k = 14
  · subst hk
    have e : lawful.records[(14 : SectNo)] = some ⟨.prep, .sl1, 19999⟩ := by decide +kernel
    rw [e] at hr
    cases hr
    decide +kernel
  · rw [h k hk] at hr
    cases hr

theorem test_met_ModeLawKept : ModeLaw lawful := by constructor <;> decide +kernel

theorem test_met_ImageLawKept : ImageLaw { lawful with inForce := some throat.signature } where
  force := by decide +kernel
  range := ⟨by decide +kernel, by decide +kernel, by decide +kernel, by decide +kernel, by decide +kernel⟩
  stored := by
    intro x h
    have e : lawful.store = none := by decide +kernel
    simp only [e] at h
    cases h
  signed := by
    intro g h
    cases h
    have e : lawful.image = throat := by decide +kernel
    exact ⟨congrArg Image.signature e.symm, by decide +kernel, by decide +kernel, by decide +kernel, by decide +kernel⟩
  unsigned := by
    intro h
    cases h

theorem test_met_IntegrityLawKept : IntegrityLaw lawful where
  limit := ⟨by decide +kernel, by decide +kernel⟩
  stored := by
    intro x h
    have e : lawful.store = none := by decide +kernel
    rw [e] at h
    cases h
  held := by decide +kernel
  below := by decide +kernel
  halted := by decide +kernel
  first := by decide +kernel
  subsequent := by decide +kernel
  scrub := by decide +kernel
  elapsed := by
    intro e h
    have k : lawful.scrubTimer = some 0 := by decide +kernel
    rw [k] at h
    cases h
    exact Nat.zero_le _
  pass := by decide +kernel
  clock := by decide +kernel

theorem test_met_HeadLawKept : HeadLaw lawful where
  globals := by decide +kernel
  stored := by
    intro x h
    have e : lawful.store = none := by decide +kernel
    rw [e] at h
    cases h
  head := by
    have h : ∀ d : DP, lawful.heads[d] = atRest := by decide +kernel
    have e : lawful.mode.running = true := by decide +kernel
    have q : lawful.image.globals.glitchLimit = 8 := by decide +kernel
    intro d
    rw [h d, e, q]
    constructor <;> simp [atRest, Head.reset, HeadState.pair, HeadState.follows, HeadState.inPassage]
  view := by decide +kernel

theorem test_met_LinkLawKept : LinkLaw lawful where
  line := by
    have h : ∀ l ∈ [Link.sup .sl0, .sup .sl1, .svl], (lawful.line l).rx = .idle ∧ (lawful.line l).tx = .idle ∧
        (lawful.line l).slot = none ∧ ((lawful.line l).rxRate = 19200 ∨ (lawful.line l).rxRate = 57600) ∧
        ((lawful.line l).txRate = 19200 ∨ (lawful.line l).txRate = 57600) := by decide +kernel
    intro l
    have hl : l ∈ [Link.sup .sl0, .sup .sl1, .svl] := by rcases l with (_ | _) | _ <;> decide
    obtain ⟨h1, h2, h3, h4, h5⟩ := h l hl
    refine ⟨?_, ?_, ?_, ?_, ?_⟩
    · intro b hb; rw [h1] at hb; cases hb
    · intro b hb; rw [h2] at hb; cases hb
    · intro r hr; rw [h3] at hr; cases hr
    · rcases h4 with h | h <;> rw [h] <;> unfold isRate <;> omega
    · rcases h5 with h | h <;> rw [h] <;> unfold isRate <;> omega
  service := by decide +kernel
  ring := by intro l; cases l <;> exact ⟨by decide +kernel, by decide +kernel⟩
  attention := by intro l; cases l <;> exact ⟨by decide +kernel, by decide +kernel⟩

end Sys2Proof.Tests
end

section
/-! PROOFS. The table of counting (03 section 3.4): what counting in and out make of a section, tied once to the table's rows;
the clauses of the statement are then facts about the rows. -/

namespace Sys2Proof.Machine

/-! ### A row of the table, applied to a section record -/

/-- The settle timer of a section that counting takes to a state: it starts on the way into SETTLING (R65, R67), is kept where the
section stays as it is or leaves RESTORING for SWEEPING, and is stopped otherwise. -/
def Sect.timerTo (free : Bool) (x : Sect) (target : SectState) : Option Nat :=
  if target = .settling then startSettle free
  else if target = .sweeping ∨ target = x.state then x.settle
  else none

/-- A section taken to the state and count of a row of the table, with the row's cause, if it raises one. -/
def Sect.byRow (d : DP) (free : Bool) (x : Sect) (w : SectState × Nat × Option Cause) : Sect :=
  { x with
    state := w.1
    count := w.2.1
    cause := w.2.2.getD x.cause
    causeDP := if w.2.2.isSome = true then some d else x.causeDP
    settle := x.timerTo free w.1 }

/-- A cause raised by a count is a row that leads to DISTURBED and keeps the count (R63). -/
theorem raise_eq_byRow (d : DP) (free : Bool) (c : Cause) (x : Sect) (h : x.state ≠ .disturbed) :
    x.raise c (some d) = x.byRow d free (.disturbed, x.count, some c) := by
  rw [raise_of_not_disturbed c _ x h]
  simp [Sect.byRow, Sect.timerTo, h.symm]

/-- A row without a cause keeps the cause and the cause DP. -/
theorem byRow_without_cause (d : DP) (free : Bool) (x : Sect) (target : SectState) (n : Nat) :
    x.byRow d free (target, n, none) = { x with state := target, count := n, settle := x.timerTo free target } := rfl

theorem timerTo_settling (free : Bool) (x : Sect) : x.timerTo free .settling = if free = true then some 0 else none := rfl

theorem timerTo_of_stopped (free : Bool) (x : Sect) (target : SectState) (hs : x.settle = none) (h : target ≠ .settling) :
    x.timerTo free target = none := by
  simp [Sect.timerTo, hs, h]

theorem timerTo_stops (free : Bool) (x : Sect) (target : SectState) (h : target ≠ .settling) (hw : target ≠ .sweeping)
    (hx : target ≠ x.state) : x.timerTo free target = none := by
  simp [Sect.timerTo, h, hw, hx]

/-! ### Counting a section follows the table -/

/-- Counting a section in makes of it what the row of the table says (R47, R49, R51, R52). -/
theorem countIn_eq_byRow (d : DP) (free : Bool) (x : Sect) (h : countFits x.state x.count) :
    x.countIn d = x.byRow d free (countTable x.state x.count true) := by
  unfold Sect.countIn
  cases hs : x.state with
  | clear | settling | restoring => simp [countTable, byRow_without_cause, Sect.timerTo, hs]
  | occupied | sweeping =>
    have hle : x.count ≤ 2047 := by rw [hs] at h; exact h.2
    by_cases hn : x.count = 2047
    · simp [countTable, maxCount, hn, raise_eq_byRow d free .saturation x (by simp [hs])]
    · have hlt : x.count < 2047 := by omega
      simp [countTable, maxCount, byRow_without_cause, Sect.timerTo, hs, hn, hlt]
  | disturbed =>
    have hle : x.count ≤ 2047 := by rw [hs] at h; exact h
    have hmin : min (x.count + 1) 2047 = if x.count = 2047 then 2047 else x.count + 1 := by split <;> omega
    simp [countTable, maxCount, byRow_without_cause, Sect.timerTo, hs, hmin]

/-- Counting a section out makes of it what the row of the table says (R48, R50, R51, R52). -/
theorem countOut_eq_byRow (d : DP) (free : Bool) (x : Sect) (h : countFits x.state x.count) :
    x.countOut d free = x.byRow d free (countTable x.state x.count false) := by
  unfold Sect.countOut
  cases hs : x.state with
  | clear | settling | restoring =>
    have hzero : x.count = 0 := by rw [hs] at h; exact h
    simp [countTable, hzero, raise_eq_byRow d free _ x (by simp [hs])]
  | occupied | sweeping =>
    have hpos : 1 ≤ x.count := by rw [hs] at h; exact h.1
    by_cases hn : x.count = 1
    · simp [countTable, byRow_without_cause, Sect.timerTo, hn]
    · have htwo : 2 ≤ x.count := by omega
      simp [countTable, byRow_without_cause, Sect.timerTo, hs, hn, htwo]
  | disturbed =>
    have hpred : x.count - 1 = if x.count = 0 then 0 else x.count - 1 := by split <;> omega
    simp [countTable, byRow_without_cause, Sect.timerTo, hs, ← hpred]

/-! ### Facts about the rows -/

/-- Every row leads to a count that goes with its state (R61). -/
theorem countTable_fits (x : SectState) (n : Nat) (inward : Bool) (h : countFits x n) :
    countFits (countTable x n inward).1 (countTable x n inward).2.1 := by
  cases x with
  | clear | settling | restoring => cases inward <;> simp [countTable, countFits]
  | occupied | sweeping =>
    obtain ⟨hpos, hle⟩ : 1 ≤ n ∧ n ≤ 2047 := h
    cases inward with
    | true =>
      by_cases hn : n = 2047
      · simp [countTable, countFits, hn]
      · simp [countTable, countFits, hn]; omega
    | false =>
      by_cases hn : n = 1
      · simp [countTable, countFits, hn]
      · simp [countTable, countFits, hn]; omega
  | disturbed =>
    have hle : n ≤ 2047 := h
    cases inward <;> simp only [countTable, countFits] <;> split <;> omega

/-- A row that raises a cause leads a section that is not DISTURBED to DISTURBED (R63). -/
theorem countTable_raises (x : SectState) (n : Nat) (inward : Bool) (c : Cause) (h : (countTable x n inward).2.2 = some c) :
    x ≠ .disturbed ∧ (countTable x n inward).1 = .disturbed := by
  cases x with
  | clear | settling | restoring =>
    cases inward with
    | true => simp [countTable] at h
    | false => exact ⟨by decide, rfl⟩
  | occupied | sweeping =>
    refine ⟨by decide, ?_⟩
    cases inward with
    | true =>
      by_cases hn : n = 2047
      · simp [countTable, hn]
      · simp [countTable, hn] at h
    | false => by_cases hn : n = 1 <;> simp [countTable, hn] at h
  | disturbed => cases inward <;> simp [countTable] at h

/-- From SETTLING counting leads to OCCUPIED or DISTURBED (R47, R48). -/
theorem countTable_leaves_settling (n : Nat) (inward : Bool) :
    (countTable .settling n inward).1 = .occupied ∨ (countTable .settling n inward).1 = .disturbed := by
  cases inward
  · exact .inr rfl
  · exact .inl rfl

/-- No row leaves the timer running outside SETTLING, where it was not running outside SETTLING before (R65). -/
theorem timerTo_countTable (free inward : Bool) (x : Sect) (hx : x.state ≠ .settling → x.settle = none)
    (h : (countTable x.state x.count inward).1 ≠ .settling) : x.timerTo free (countTable x.state x.count inward).1 = none := by
  by_cases hs : x.state = .settling
  · obtain hw | hw : (countTable x.state x.count inward).1 = .occupied ∨ (countTable x.state x.count inward).1 = .disturbed := by
      rw [hs]; exact countTable_leaves_settling _ _
    all_goals rw [hw]; exact timerTo_stops free x _ (by decide) (by decide) (by simp [hs])
  · exact timerTo_of_stopped free x _ (hx hs) h

/-- Settles O17: a counted section is the section taken by its row of the table, and the clauses are facts about the rows. -/
theorem countingTable : Obligations.CountingTable := by
  refine ⟨⟨rfl, rfl, rfl, rfl, rfl, rfl⟩, fun d inward free x hfits => ?_⟩
  have hrow : (if inward = true then x.countIn d else x.countOut d free) =
      x.byRow d free (countTable x.state x.count inward) := by
    cases inward
    · exact countOut_eq_byRow d free x hfits
    · exact countIn_eq_byRow d free x hfits
  intro y w
  have hy : y = x.byRow d free w := hrow
  rw [hy]
  refine ⟨rfl, rfl, countTable_fits _ _ inward hfits, fun c hc => ?raised, fun hc => ?kept, fun _ hw => ?started,
    fun hx hw => timerTo_countTable free inward x hx hw, rfl, rfl⟩
  case raised =>
    obtain ⟨hx, hw⟩ : x.state ≠ .disturbed ∧ w.1 = .disturbed := countTable_raises _ _ _ c hc
    have hstop : x.timerTo free w.1 = none := by
      rw [hw]; exact timerTo_stops free x _ (by decide) (by decide) hx.symm
    exact ⟨by simp [Sect.byRow, hc], by simp [Sect.byRow, hc], hstop⟩
  case kept => exact ⟨by simp [Sect.byRow, hc], by simp [Sect.byRow, hc]⟩
  case started =>
    have hto : w.1 = .settling := hw
    change x.timerTo free w.1 = _
    rw [hto, timerTo_settling]

end Sys2Proof.Machine
end

section
/-! PROOFS. SETTLE_EXPIRY (R66). Every change of section records the Counting Engine makes is the report of the new records in the
statements' own form (R85, R86, R116); the expiry is one such change. -/

namespace Sys2Proof.Machine

/-! ### A change of section records is a report of the new records -/

/-- With the changed records in place, the report of a section is due exactly where the statements' form finds a changed code (R85). -/
theorem codeChanged_sectsBy (s : State) (f : SectNo → Sect → Sect) (k : SectNo) :
    State.codeChanged { s with sects := s.sectsBy f } s.sects k = true ↔
      s.used k = true ∧ (f k s.sects[k]).state ≠ s.sects[k].state := by
  have hget : (s.sectsBy f)[k] = f k s.sects[k] := sectsBy_get s f k
  simp only [State.codeChanged, State.used, Bool.and_eq_true, decide_eq_true_eq, hget]

/-- The records that a change of section records leaves are those of the statements' form (R116). -/
theorem recordsKept_sectsBy (s : State) (f : SectNo → Sect → Sect) :
    State.recordsKept { s with sects := s.sectsBy f } s.sects (List.finRange 24) =
      (s.reported fun k => f k s.sects[k]).records := by
  refine tabulate_congr _ _ fun k => ?_
  simp only [List.mem_finRange, true_and, codeChanged_sectsBy]

/-- What the removal of a section's record asks for, in the statements' form (R118). -/
theorem lapse_eq_lapses (s : State) (k : SectNo) (l : SupLink) : lapse s.records[k] l = s.lapses k l := by
  unfold State.lapses
  cases s.records[k] with
  | none => rfl
  | some r => simp only [lapse, eq_comm]

/-- What a change of section records asks the controllers for is what the statements' form asks (R86, R118). -/
theorem changeAsks_sectsBy (s : State) (f : SectNo → Sect → Sect) (l : SupLink) :
    (List.finRange 24).flatMap (State.changeAsks { s with sects := s.sectsBy f } s.sects l) =
      s.reports (fun k => f k s.sects[k]) l := by
  refine List.flatMap_congr fun k _ => ?_
  unfold State.changeAsks
  simp only [codeChanged_sectsBy, lapse_eq_lapses]
  rfl

/-- A change of section records takes them over and reports every state code that changed (R85, R86, R116). -/
theorem changeSects_eq_reported (s : State) (f : SectNo → Sect → Sect) :
    s.changeSects f = s.reported fun k => f k s.sects[k] := by
  rw [changeSects_eq, recordsKept_sectsBy]
  simp only [changeAsks_sectsBy]
  rfl

/-! ### The expiry of a settle timer -/

/-- The settle time counts the base and the section's extension in units of 100 ms (R64). -/
theorem settleTime_eq (s : State) (k : SectNo) :
    s.settleTime k = (s.image.globals.settleBase + s.image.sects[k].settleExt) * 100 :=
  (Nat.add_mul _ _ 100).symm

/-- A settle timer is due exactly if it runs and has counted the settle time (R66). -/
theorem settleDue_iff (s : State) (k : SectNo) :
    s.settleDue k = true ↔ ∃ e, s.sects[k].settle = some e ∧ s.settleTime k ≤ e := by
  unfold State.settleDue
  cases s.sects[k].settle with
  | none => simp
  | some e => simp

/-- A section whose clear proof is made (R66). -/
def Sect.provedClear (x : Sect) : Sect := { x with state := .clear, count := 0, settle := none }

/-- A due expiry takes its section to CLEAR, touches no other section and reports the change (R66, R85). -/
theorem takeSettle_of_due (s : State) (k : SectNo) (h : s.settleDue k = true) :
    s.takeSettle k = s.reported fun j => if j = k then s.sects[k].provedClear else s.sects[j] := by
  unfold State.takeSettle
  rw [if_pos h, changeSects_eq_reported]
  congr 1
  funext j
  by_cases hj : j = k
  · subst hj; rfl
  · rw [if_neg hj, if_neg hj]

/-- Where no expiry is due, none is taken (R66; log 1). -/
theorem takeSettle_of_not_due (s : State) (k : SectNo) (h : ¬ s.settleDue k = true) : s.takeSettle k = s := if_neg h

/-- The meaning of SETTLE_EXPIRY takes the expiry of its section's timer. -/
theorem exec_settleExpiry (k : SectNo) (s : State) : exec (.settleExpiry k) s = .next (s.takeSettle k) := rfl

/-- Settles O22: the expiry is one change of section records, which reports itself. -/
theorem settleExpiryResult : Obligations.SettleExpiryResult := by
  refine ⟨⟨rfl, rfl⟩, fun s k => ⟨fun e hrun htime => ?expired, fun hstop => ?stopped⟩⟩
  case expired =>
    have hdue : s.settleDue k = true := (settleDue_iff s k).mpr ⟨e, hrun, (settleTime_eq s k).trans_le htime⟩
    rw [exec_settleExpiry, takeSettle_of_due s k hdue]
    rfl
  case stopped =>
    have hidle : ¬ s.settleDue k = true := fun hdue => by
      obtain ⟨e, hrun, _⟩ := (settleDue_iff s k).mp hdue
      exact Option.some_ne_none e (hrun.symm.trans hstop)
    rw [exec_settleExpiry, takeSettle_of_not_due s k hidle]

end Sys2Proof.Machine
end

section
/-! PROOFS. CONCUR_WINDOW_EXPIRY (R114). A window timer is due where a record is open and has counted the window (R107); its expiry is the
removal of that record, which asks for CONCUR_LAPSED on the opener. -/

namespace Sys2Proof.Machine

/-! ### What asking for a notice leaves unchanged -/

@[simp] theorem ask_records (s : State) (n : Notice) (l : SupLink) : (s.ask n l).records = s.records := setSup_records s l _

@[simp] theorem ask_sects (s : State) (n : Notice) (l : SupLink) : (s.ask n l).sects = s.sects := setSup_sects s l _

/-! ### The expiry of a window timer -/

/-- A window timer is due exactly if a record is open and has counted CONCUR_WINDOW (R107, R114). -/
theorem windowDue_iff (s : State) (k : SectNo) :
    s.windowDue k = true ↔ ∃ r, s.records[k] = some r ∧ s.windowTicks ≤ r.elapsed := by
  unfold State.windowDue
  cases s.records[k] with
  | none => simp
  | some r => simp

/-- The removal of an open record asks its opener for CONCUR_LAPSED (R114). -/
theorem dropRecord_of_open (s : State) (k : SectNo) (r : PendingRecord) (h : s.records[k] = some r) :
    s.dropRecord k = (s.setRecord k none).ask .concurLapsed r.opener := by
  rw [dropRecord_eq, ask_eq, h]
  rfl

/-- A due expiry removes the section's record (R114). -/
theorem takeWindow_of_due (s : State) (k : SectNo) (h : s.windowDue k = true) : s.takeWindow k = s.dropRecord k := if_pos h

/-- The meaning of CONCUR_WINDOW_EXPIRY takes the expiry of its section's window timer. -/
theorem exec_concurWindowExpiry (k : SectNo) (s : State) : exec (.concurWindowExpiry k) s = .next (s.takeWindow k) := rfl

/-- Settles O29: the due expiry is the removal of the open record, and asking for the notice touches neither records nor sections. -/
theorem windowExpiryResult : Obligations.WindowExpiryResult := by
  intro s k r hopen htime
  have hdue : s.windowDue k = true := (windowDue_iff s k).mpr ⟨r, hopen, htime⟩
  refine ⟨(s.setRecord k none).ask .concurLapsed r.opener, ?removed, rfl, ?noRecord, ?sectsKept⟩
  case removed => rw [exec_concurWindowExpiry, takeWindow_of_due s k hdue, dropRecord_of_open s k r hopen]
  case noRecord => rw [ask_records, records_setRecord_same]
  case sectsKept => rw [ask_sects, setRecord_sects]

end Sys2Proof.Machine
end

section
/-! PROOFS. What a step is made of. Every command is a sequence of moves, each one operation of one block under the conditions it is carried out
in; what holds of every move then holds of every step. The moves are grouped by the blocks they touch. -/

namespace Sys2Proof.Machine

/-! ### The moves, block by block -/

/-- Moves of the link controllers alone (chapters 9 and 10). -/
inductive LinkMove (s : State) : State → Prop
  | asks (a : SupLink → List Notice) : LinkMove s (s.asks a)
  | unhandSup (l : SupLink) : LinkMove s (s.unhandSup l)
  | unhandSvc : LinkMove s s.unhandSvc
  | respond (l : Link) (kind : Byte) (a : Answer) : a.data.length ≤ 12 → LinkMove s (s.respond l kind a)
  | overrun (l : Link) : LinkMove s (s.overrunOn l)
  | handOff (e : AxleEvent) (on : LinkSet) : LinkMove s (s.handOff e on)
  | ackNotices (l : SupLink) (m : BitVec 16) : LinkMove s (s.setSup l ((s.sup l).ackNotices m))
  | takeMask (l : SupLink) (m : BitVec 16) (a : Nat) : LinkMove s (s.setSup l ((s.sup l).takeMask m a))
  | character (l : Link) (c : Character) : LinkMove s (s.takeChar l c)
  | telegramEnd (l : Link) : LinkMove s (s.endTelegram l)
  | startResponse (l : Link) : LinkMove s (s.startResponse l)
  | startStatus (l : SupLink) : LinkMove s (s.startStatus l)
  | startEvents (l : SupLink) : LinkMove s (s.startEvents l)
  | endTransmit (l : Link) : LinkMove s (s.endTransmit l)
  | endGap (l : Link) : LinkMove s (s.endGap l)
  | takeReport (l : SupLink) : LinkMove s (s.takeReport l)
  | settleRxRate (l : Link) : LinkMove s (s.settleRxRate l)
  | settleTxRate (l : Link) : LinkMove s (s.settleTxRate l)
  | takeAsked (l : SupLink) (n : Notice) : LinkMove s (s.takeAsked l n)
  | takePulseEnd (l : SupLink) : LinkMove s (s.takePulseEnd l)

/-- Moves of the timers and inputs that no law speaks of. -/
inductive AsideMove (s : State) : State → Prop
  | queue (rest : List Instr) : AsideMove s { s with pending := rest }
  | period : AsideMove s s.takePeriod
  | key (b : Bool) : AsideMove s { s with svkey := b }

/-- Moves of the Head Decoder Unit (chapter 1), and an axle event taken from a head. -/
inductive HeadMove (s : State) : State → Prop
  | faultInput (d : DP) : HeadMove s (s.takeFaultInput d)
  | glitch (d : DP) : HeadMove s (s.takeGlitch d)
  | change (d : DP) : HeadMove s (s.takeChange d)
  | recovery (d : DP) (since : HeadState) : since = .fault ∨ since = .unknown → HeadMove s (s.takeRecovery d since)
  | drain : HeadMove s s.drainBuckets
  | axleTaken (d : DP) (e : AxleEvent) (rest : List HandedOn) : s.heads[d].outbox = .axle e :: rest →
      HeadMove s (s.setHead d { s.heads[d] with outbox := rest })

/-- Moves of the section records and the pending reset records (chapters 3 to 6). -/
inductive SectMove (s : State) : State → Prop
  | term (d : DP) (dir : Dir) (t : Term) : s.mode = .counting → SectMove s (State.applyTerm d dir s t)
  | settle (k : SectNo) : SectMove s (s.takeSettle k)
  | dropRecord (k : SectNo) : SectMove s (s.dropRecord k)
  | clearRecord (k : SectNo) : SectMove s (s.setRecord k none)
  | openRecord (k : SectNo) (kind : ResetKind) (l : SupLink) : s.mode = .counting → s.used k = true →
      s.image.supervision k = .shared → resettable s.sects[k].state = true → SectMove s (s.setRecord k (some ⟨kind, l, 0⟩))
  | reset (kind : ResetKind) (k : SectNo) : s.mode = .counting → s.used k = true → s.records[k] = none →
      SectMove s (s.performReset kind k)

/-- Moves of the Integrity Monitor within a mode (chapter 7). -/
inductive IntegrityMove (s : State) : State → Prop
  | startScrub : IntegrityMove s s.startScrub
  | endPass : IntegrityMove s { s with scrubPass := false }
  | clearErrors : IntegrityMove s { s with softErrors := 0 }
  | softError : s.mode = .counting → s.softErrors + 1 < s.image.globals.softLimit →
      IntegrityMove s { s with softErrors := s.softErrors + 1 }
  | endWindow : IntegrityMove s { s with clockTicks := 0 }
  | subsequent (c : HaltCause) : s.mode = .halted → IntegrityMove s { s with subCause := offerCause c s.subCause }

/-- Moves of the Image Controller in LOADING (R152 to R154). -/
inductive LoadMove (s : State) : State → Prop
  | index (table index : Nat) : LoadMove s (State.setIndex table index s).1
  | map (n : Nat) (terms : List WireTerm) : LoadMove s (State.writeMap n terms s).1
  | sect (supervision direct ext quiet : Nat) : LoadMove s (State.writeSect supervision direct ext quiet s).1
  | globals (g : Globals) (p q : LinkParams) : LoadMove s (State.writeGlobals g p q s).1
  | endLoad : LoadMove s (State.endLoad s).1

/-- LOAD_BEGIN and RESTART are refused in these modes (R148). -/
def Mode.locked (m : Mode) : Prop := m = .starting ∨ m = .verifying ∨ m = .counting

/-- Moves from mode to mode (chapter 8, R135). -/
inductive ModeMove (s : State) : State → Prop
  | halt (c : HaltCause) : s.mode = .counting → ModeMove s (s.enterHalted c)
  | softHalt : s.mode = .counting → s.image.globals.softLimit ≤ s.softErrors + 1 →
      ModeMove s ({ s with softErrors := s.softErrors + 1 }.enterHalted .softLimit)
  | start : ModeMove s s.completeStart
  | clearing : ModeMove s s.completeClearing
  | verify : ModeMove s s.completeVerify
  | abandon : ModeMove s s.abandonLoad
  | beginLoad : ¬ s.mode.locked → ModeMove s (State.beginLoad s).1
  | restart : ¬ s.mode.locked → ModeMove s (State.restart s).1
  | endorse (l : SupLink) (g : Signature) : ModeMove s (State.endorse l g s).1
  | unendorse (l : SupLink) : s.mode ≠ .counting → ModeMove s (s.setEndorsed l false)
  | withdraw (l : SupLink) : s.mode = .counting → ModeMove s (s.setEndorsed l false).stopCounting
  | powerOn : ModeMove s s.powerOn

/-- A head whose latest samples have been taken: no channel stands at QUAL and none has a glitch to be taken (R3). -/
def Head.Settled (qual : Nat) (h : Head) : Prop :=
  (h.cand1 < qual ∨ h.cand1 = 0) ∧ (h.cand2 < qual ∨ h.cand2 = 0) ∧
    (h.raw1 = h.q1 → h.cand1 = 0) ∧ (h.raw2 = h.q2 → h.cand2 = 0)

/-- One move of a step. -/
inductive Move (s : State) : State → Prop
  | link {t : State} : LinkMove s t → Move s t
  | aside {t : State} : AsideMove s t → Move s t
  | head {t : State} : HeadMove s t → Move s t
  | sect {t : State} : SectMove s t → Move s t
  | classTaken (d : DP) (c : HeadClass) (rest : List HandedOn) : s.heads[d].outbox = .classChange c :: rest →
      Move s ((s.setHead d { s.heads[d] with outbox := rest }).applyClass d c)
  | integrity {t : State} : IntegrityMove s t → Move s t
  | load {t : State} : s.mode = .loading → s.sub = .filling → LoadMove s t → Move s t
  | mode {t : State} : ModeMove s t → Move s t
  | sample (inputs : Vector Sample 32) : (∀ d : DP, s.heads[d].Settled s.qual) → Move s (s.sampleAll inputs)
  | tick : Move s s.tick

/-- A sequence of moves. -/
def Moves : State → State → Prop := Relation.ReflTransGen Move

theorem Moves.refl (s : State) : Moves s s := Relation.ReflTransGen.refl

theorem Move.moves {s t : State} (h : Move s t) : Moves s t := Relation.ReflTransGen.single h

theorem Moves.trans {s t u : State} (h : Moves s t) (k : Moves t u) : Moves s u := Relation.ReflTransGen.trans h k

/-- What every move keeps, every sequence of moves keeps. -/
theorem Moves.keeps {P : State → Prop} (hP : ∀ s t, Move s t → P s → P t) {s t : State} (h : Moves s t) : P s → P t := by
  intro hs
  induction h with
  | refl => exact hs
  | tail _ last ih => exact hP _ _ last ih

theorem moves_foldl {α : Type} (f : State → α → State) (h : ∀ s a, Moves s (f s a)) (xs : List α) (s : State) :
    Moves s (xs.foldl f s) := by
  induction xs generalizing s with
  | nil => exact Moves.refl s
  | cons x xs ih => exact (h s x).trans (ih _)

theorem LinkMove.moves {s t : State} (h : LinkMove s t) : Moves s t := (Move.link h).moves

theorem AsideMove.moves {s t : State} (h : AsideMove s t) : Moves s t := (Move.aside h).moves

theorem HeadMove.moves {s t : State} (h : HeadMove s t) : Moves s t := (Move.head h).moves

theorem SectMove.moves {s t : State} (h : SectMove s t) : Moves s t := (Move.sect h).moves

theorem IntegrityMove.moves {s t : State} (h : IntegrityMove s t) : Moves s t := (Move.integrity h).moves

theorem ModeMove.moves {s t : State} (h : ModeMove s t) : Moves s t := (Move.mode h).moves

/-! ### The axle events and the halt -/

theorem moves_raiseHalt (s : State) (c : HaltCause) : Moves s (s.raiseHalt c) := by
  by_cases hc : s.mode = .counting
  · rw [raiseHalt_of_counting s c hc]; exact (ModeMove.halt c hc).moves
  · by_cases hh : s.mode = .halted
    · rw [raiseHalt_of_halted s c hh]; exact (IntegrityMove.subsequent c hh).moves
    · rw [raiseHalt_of_other s c hc hh]; exact Moves.refl s

/-- The section of a term, counted by an event (R44, R47 to R52). -/
def State.counted (s : State) (d : DP) (dir : Dir) (t : Term) : Sect :=
  if countsIn t.sense dir then s.sects[t.sect].countIn d else s.sects[t.sect].countOut d (s.viewFree t.sect)

/-- What a term of an event asks a controller for, in the order of R53. -/
def State.termAsks (s : State) (d : DP) (dir : Dir) (t : Term) (l : SupLink) : List Notice :=
  lapse s.records[t.sect] l ++
    (if (s.counted d dir t).state ≠ s.sects[t.sect].state ∧ s.supervises l t.sect = true then [.change] else []) ++
    (if t.notify = true ∧ s.supervises l t.sect = true then [.selected] else [])

/-- A term that names a used section counts it, updates its history, removes its record and asks for the notices (R43, R53, R115). -/
theorem applyTerm_of_used (d : DP) (dir : Dir) (s : State) (t : Term) (h : s.used t.sect = true) :
    State.applyTerm d dir s t =
      ((s.setSect t.sect ((s.counted d dir t).touchHistory s.periodCounter)).setRecord t.sect none).asks (s.termAsks d dir t) := by
  have hdrop : (s.setSect t.sect ((s.counted d dir t).touchHistory s.periodCounter)).dropRecord t.sect =
      ((s.setSect t.sect ((s.counted d dir t).touchHistory s.periodCounter)).setRecord t.sect none).asks
        (lapse s.records[t.sect]) := dropRecord_eq _ _
  have hterm : State.applyTerm d dir s t =
      let s1 := (s.setSect t.sect ((s.counted d dir t).touchHistory s.periodCounter)).dropRecord t.sect
      let s2 := if (s.counted d dir t).state ≠ s.sects[t.sect].state then s1.askEach .change fun l => s.supervises l t.sect else s1
      if t.notify then s2.askEach .selected fun l => s.supervises l t.sect else s2 := if_pos h
  rw [hterm, hdrop]
  unfold State.termAsks
  by_cases hstate : (s.counted d dir t).state = s.sects[t.sect].state <;> by_cases hnotify : t.notify = true
  all_goals simp only [hstate, hnotify, askEach_eq, asks_asks, ne_eq, not_true_eq_false, not_false_eq_true, if_true, if_false,
    false_and, true_and, List.append_nil, Bool.false_eq_true]

/-- A term that names an unused section does nothing (R60; log 20). -/
theorem applyTerm_of_unused (d : DP) (dir : Dir) (s : State) (t : Term) (h : s.used t.sect = false) :
    State.applyTerm d dir s t = s := by
  unfold State.applyTerm
  simp [h]

/-- A term of an event touches section records, pending records and requests for notices alone. -/
theorem applyTerm_frame (d : DP) (dir : Dir) (s : State) (t : Term) :
    ∃ v w a, State.applyTerm d dir s t = { s with sects := v, records := w }.asks a := by
  cases h : s.used t.sect with
  | true => exact ⟨_, _, _, applyTerm_of_used d dir s t h⟩
  | false => exact ⟨s.sects, s.records, fun _ => [], by rw [asks_nil, applyTerm_of_unused d dir s t h]⟩

theorem applyTerm_mode (d : DP) (dir : Dir) (s : State) (t : Term) : (State.applyTerm d dir s t).mode = s.mode := by
  obtain ⟨v, w, a, h⟩ := applyTerm_frame d dir s t
  rw [h]; rfl

theorem moves_applyTerms (d : DP) (dir : Dir) (ts : List Term) (s : State) (h : s.mode = .counting) :
    Moves s (ts.foldl (State.applyTerm d dir) s) := by
  induction ts generalizing s with
  | nil => exact Moves.refl s
  | cons t ts ih => exact (SectMove.term d dir t h).moves.trans (ih _ ((applyTerm_mode d dir s t).trans h))

theorem moves_applyEvent (s : State) (e : AxleEvent) (ts : List Term) (h : s.mode = .counting) : Moves s (s.applyEvent e ts) :=
  (moves_applyTerms e.dp e.dir ts s h).trans (LinkMove.handOff e _).moves

/-- The rings that are offered an event: of a controller, what `offer_frame` names is touched. -/
theorem handOff_eq (s : State) (e : AxleEvent) (on : LinkSet) :
    s.handOff e on =
      { s with lc0 := if on.sl0 then s.lc0.offer e else s.lc0, lc1 := if on.sl1 then s.lc1.offer e else s.lc1 } := by
  unfold State.handOff
  cases on.sl0 <;> cases on.sl1 <;> rfl

theorem applyTerms_frame (d : DP) (dir : Dir) (ts : List Term) (s : State) :
    ∃ v w a, ts.foldl (State.applyTerm d dir) s = { s with sects := v, records := w }.asks a := by
  induction ts generalizing s with
  | nil => exact ⟨s.sects, s.records, fun _ => [], (asks_nil s).symm⟩
  | cons t ts ih =>
    obtain ⟨v, w, a, ht⟩ := applyTerm_frame d dir s t
    obtain ⟨v', w', a', hts⟩ := ih (State.applyTerm d dir s t)
    refine ⟨v', w', fun l => a l ++ a' l, ?_⟩
    rw [List.foldl_cons, hts, ht, ← asks_asks]
    rfl

/-- An applied event touches section records, pending records and the supervisory controllers alone. -/
theorem applyEvent_frame (s : State) (e : AxleEvent) (ts : List Term) :
    ∃ v w x y, s.applyEvent e ts = { s with sects := v, records := w, lc0 := x, lc1 := y } := by
  obtain ⟨v, w, a, h⟩ := applyTerms_frame e.dp e.dir ts s
  unfold State.applyEvent
  rw [handOff_eq, h]
  exact ⟨v, w, _, _, rfl⟩

/-! ### An applied event does not read the soft error count -/

theorem applyTerm_softErrors (d : DP) (dir : Dir) (s : State) (t : Term) (n : Nat) :
    State.applyTerm d dir { s with softErrors := n } t = { State.applyTerm d dir s t with softErrors := n } := by
  cases h : s.used t.sect with
  | true => rw [applyTerm_of_used d dir s t h, applyTerm_of_used d dir { s with softErrors := n } t h]; rfl
  | false => rw [applyTerm_of_unused d dir s t h, applyTerm_of_unused d dir { s with softErrors := n } t h]

theorem applyTerms_softErrors (d : DP) (dir : Dir) (ts : List Term) (s : State) (n : Nat) :
    ts.foldl (State.applyTerm d dir) { s with softErrors := n } =
      { ts.foldl (State.applyTerm d dir) s with softErrors := n } := by
  induction ts generalizing s with
  | nil => rfl
  | cons t ts ih => rw [List.foldl_cons, applyTerm_softErrors, ih, List.foldl_cons]

theorem applyEvent_softErrors (s : State) (e : AxleEvent) (ts : List Term) (n : Nat) :
    State.applyEvent { s with softErrors := n } e ts = { s.applyEvent e ts with softErrors := n } := by
  unfold State.applyEvent
  rw [applyTerms_softErrors, handOff_eq, handOff_eq]

/-! ### Axle events are moves -/

theorem moves_applyAxle (s : State) (e : AxleEvent) (read1 read2 : MapRead) (h : s.mode = .counting) :
    Moves s (s.applyAxle e read1 read2) := by
  unfold State.applyAxle
  split
  case isTrue => exact moves_applyEvent s e _ h
  case isFalse =>
    split
    case isTrue =>
      have hevent : Moves s (s.applyEvent e (s.readEntry e.dp read2).1.terms) := moves_applyEvent s e _ h
      obtain ⟨v, w, x, y, hframe⟩ := applyEvent_frame s e (s.readEntry e.dp read2).1.terms
      rw [applyEvent_softErrors]
      generalize s.applyEvent e (s.readEntry e.dp read2).1.terms = t at hevent hframe
      have hmode : t.mode = .counting := by rw [hframe]; exact h
      have himage : t.image = s.image := by rw [hframe]
      have herrors : t.softErrors = s.softErrors := by rw [hframe]
      simp only
      split
      case isTrue hlimit =>
        rw [← herrors, raiseHalt_of_counting { t with softErrors := t.softErrors + 1 } .softLimit hmode]
        exact hevent.trans (ModeMove.softHalt hmode (by rw [himage, herrors]; exact hlimit)).moves
      case isFalse hlimit =>
        rw [← herrors]
        exact hevent.trans (IntegrityMove.softError hmode (by rw [himage, herrors]; omega)).moves
    case isFalse => exact moves_raiseHalt s _

theorem moves_takeAxle (s : State) (d : DP) (read1 read2 : MapRead) : Moves s (s.takeAxle d read1 read2) := by
  unfold State.takeAxle
  split
  case h_1 e rest hbox =>
    have htaken : Moves s (s.setHead d { s.heads[d] with outbox := rest }) := (HeadMove.axleTaken d e rest hbox).moves
    simp only
    split
    case isTrue hmode => exact htaken.trans (moves_applyAxle _ e read1 read2 hmode)
    case isFalse => exact htaken
  case h_2 => exact Moves.refl s
  case h_3 => exact Moves.refl s

theorem moves_takeClass (s : State) (d : DP) : Moves s (s.takeClass d) := by
  unfold State.takeClass
  split
  case h_1 c rest hbox => exact (Move.classTaken d c rest hbox).moves
  case h_2 => exact Moves.refl s
  case h_3 => exact Moves.refl s

/-! ### Requests -/

/-- An owner acts by moves, and its answer fits the slot. -/
def Acts (owner : State → State × Answer) : Prop := ∀ t : State, Moves t (owner t).1 ∧ (owner t).2.data.length ≤ 12

theorem Acts.respond {owner : State → State × Answer} (h : Acts owner) (s : State) (l : Link) (kind : Byte) :
    Moves s ((owner s).1.respond l kind (owner s).2) :=
  (h s).1.trans (LinkMove.respond l kind _ (h s).2).moves

theorem moves_takeSup (s : State) (l : SupLink) (r : SupRequest) {owner : State → State × Answer} (h : Acts owner) :
    Moves s (s.takeSup l r owner) := by
  unfold State.takeSup
  split
  · exact (LinkMove.unhandSup l).moves.trans (h.respond (s.unhandSup l) (.sup l) (supKind r))
  · split
    · exact (LinkMove.overrun (.sup l)).moves
    · exact h.respond s (.sup l) (supKind r)

theorem moves_takeSvc (s : State) (r : SvcRequest) {owner : State → State × Answer} (h : Acts owner) :
    Moves s (s.takeSvc r owner) := by
  unfold State.takeSvc
  split
  · exact LinkMove.unhandSvc.moves.trans (h.respond s.unhandSvc .svl (svcKind r))
  · split
    · exact (LinkMove.overrun .svl).moves
    · exact h.respond s .svl (svcKind r)

/-- An answer without data fits the slot. -/
theorem plain_fits (r : Result) : (plain r).data.length ≤ 12 := Nat.zero_le _

theorem moves_performReset (s : State) (kind : ResetKind) (k : SectNo) (hmode : s.mode = .counting) (hused : s.used k = true) :
    Moves s ((s.performReset kind k).setRecord k none) := by
  have hswap : (s.performReset kind k).setRecord k none = (s.setRecord k none).performReset kind k := by
    rw [performReset_eq, performReset_eq]; cases kind <;> rfl
  rw [hswap]
  exact (SectMove.clearRecord k).moves.trans
    (SectMove.reset (s := s.setRecord k none) kind k hmode hused (records_setRecord_same s k none)).moves

/-- Checks 1 to 3 of R101 leave a used section of a counting evaluator. -/
theorem checkRequest_ok {s : State} {l : SupLink} {n : Nat} {k : SectNo} (h : s.checkRequest l n = .ok k) :
    s.mode = .counting ∧ s.usedSect n = some k ∧ s.supervises l k = true := by
  unfold State.checkRequest at h
  split at h
  case isTrue => cases h
  case isFalse hmode =>
    split at h
    case h_1 => cases h
    case h_2 j hj =>
      split at h
      case isTrue hl => cases h; exact ⟨not_not.mp hmode, hj, hl⟩
      case isFalse => cases h

theorem usedSect_some {s : State} {n : Nat} {k : SectNo} (h : s.usedSect n = some k) : k.val = n ∧ s.used k = true := by
  unfold State.usedSect sectOf at h
  obtain ⟨hsect, hused⟩ := Option.filter_eq_some_iff.mp h
  split at hsect
  case isTrue hn => exact ⟨congrArg Fin.val (Option.some.inj hsect.symm), hused⟩
  case isFalse => cases hsect

theorem acts_requestReset (kind : ResetKind) (l : SupLink) (n : Nat) : Acts (State.requestReset kind l n) := by
  intro s
  unfold State.requestReset
  split
  case h_1 => exact ⟨Moves.refl s, plain_fits _⟩
  case h_2 k hcheck =>
    obtain ⟨hmode, hsect, _⟩ := checkRequest_ok hcheck
    have hused : s.used k = true := (usedSect_some hsect).2
    split
    case isTrue => exact ⟨Moves.refl s, plain_fits _⟩
    case isFalse hstate =>
      have hresettable : resettable s.sects[k].state = true := by simpa using hstate
      split
      case h_1 hnone =>
        unfold State.openReset
        split
        case h_1 => exact ⟨Moves.refl s, plain_fits _⟩
        case h_2 =>
          split
          case isTrue hshared =>
            refine ⟨(SectMove.openRecord k kind l hmode hused hshared hresettable).moves.trans ?_, plain_fits _⟩
            simp only [ask_eq]
            exact (LinkMove.asks _).moves
          case isFalse => exact ⟨(SectMove.reset kind k hmode hused hnone).moves, plain_fits _⟩
      case h_2 r _ =>
        unfold State.meetRecord
        split
        case isTrue => exact ⟨Moves.refl s, plain_fits _⟩
        case isFalse =>
          split
          case isTrue => exact ⟨(SectMove.dropRecord k).moves, plain_fits _⟩
          case isFalse =>
            split
            case h_1 => exact ⟨(SectMove.dropRecord k).moves, plain_fits _⟩
            case h_2 => exact ⟨moves_performReset s kind k hmode hused, plain_fits _⟩

theorem acts_cancelReset (l : SupLink) (n : Nat) : Acts (State.cancelReset l n) := by
  intro s
  unfold State.cancelReset
  split
  case h_1 => exact ⟨Moves.refl s, plain_fits _⟩
  case h_2 k _ =>
    split
    case h_1 => exact ⟨Moves.refl s, plain_fits _⟩
    case h_2 =>
      split
      case isTrue => exact ⟨(SectMove.clearRecord k).moves, plain_fits _⟩
      case isFalse => exact ⟨Moves.refl s, plain_fits _⟩

theorem acts_sectDetail (n : Nat) : Acts (State.sectDetail n) := by
  intro s
  unfold State.sectDetail
  split
  case h_1 => exact ⟨Moves.refl s, plain_fits _⟩
  case h_2 k _ =>
    refine ⟨Moves.refl s, ?_⟩
    unfold State.detailData
    cases s.records[k] <;> simp [bytes16]

theorem acts_endorse (l : SupLink) (g : Signature) : Acts (State.endorse l g) := by
  intro s
  refine ⟨(ModeMove.endorse l g).moves, ?_⟩
  unfold State.endorse
  split
  case h_1 => split <;> exact plain_fits _
  all_goals exact plain_fits _

theorem acts_withdraw (l : SupLink) : Acts (State.withdrawEndorsement l) := by
  intro s
  refine ⟨?_, plain_fits _⟩
  unfold State.withdrawEndorsement
  have hkeep : (s.setEndorsed l false).mode = s.mode := setEndorsed_mode s l false
  by_cases hmode : s.mode = .counting
  · simp only [hmode, if_true, ask_eq]
    exact (ModeMove.withdraw l hmode).moves.trans (LinkMove.asks _).moves
  · simp only [hmode, if_false]
    exact (ModeMove.unendorse l hmode).moves

/-! ### Requests judged by the key -/

theorem moves_abandonLoad (s : State) : Moves s s.abandonLoad := ModeMove.abandon.moves

theorem moves_keyInactive (s : State) : Moves s s.keyInactive :=
  (AsideMove.key false).moves.trans (moves_abandonLoad { s with svkey := false })

theorem moves_seeKey (s : State) (key : Bool) : Moves s (s.seeKey key) := by
  cases key
  · exact moves_keyInactive s
  · exact (AsideMove.key true).moves

theorem acts_judgedByKey (key : Bool) (refusal : State → Option Result) (act : State → State × Answer)
    (h : ∀ t, refusal t = none → Moves t (act t).1 ∧ (act t).2.data.length ≤ 12) : Acts (State.judgedByKey key refusal act) := by
  intro s
  unfold State.judgedByKey
  simp only
  split
  case h_1 => exact ⟨moves_seeKey s key, plain_fits _⟩
  case h_2 htaken => exact ⟨(moves_seeKey s key).trans (h _ htaken).1, (h _ htaken).2⟩

/-- LOAD_BEGIN and RESTART are not refused only in a mode that is not locked. -/
theorem not_locked_of_begin {s : State} (h : s.refuseBegin = none) : ¬ s.mode.locked := by
  unfold State.refuseBegin at h
  rintro (hm | hm | hm) <;> rw [hm] at h
  · cases h
  · cases h
  · cases hk : s.svkey <;> simp [hk] at h

/-- The writes of a load are not refused only in FILLING. -/
theorem filling_of_write {s : State} (h : s.refuseWrite = none) : s.mode = .loading ∧ s.sub = .filling := by
  unfold State.refuseWrite at h
  split at h
  case h_4 hmode =>
    split at h
    case isTrue =>
      split at h
      case h_2 hsub => exact ⟨hmode, hsub⟩
      all_goals cases h
    case isFalse => cases h
  case h_1 => cases h
  case h_2 => cases h
  all_goals split at h <;> cases h

theorem acts_write (key : Bool) (act : State → State × Answer) (hmove : ∀ t, LoadMove t (act t).1)
    (hfit : ∀ t, (act t).2.data.length ≤ 12) : Acts (State.judgedByKey key State.refuseWrite act) :=
  acts_judgedByKey key _ act fun t ht =>
    ⟨(Move.load (filling_of_write ht).1 (filling_of_write ht).2 (hmove t)).moves, hfit t⟩

theorem acts_setIndex (key : Bool) (table index : Nat) :
    Acts (State.judgedByKey key State.refuseWrite (State.setIndex table index)) :=
  acts_write key _ (fun _ => .index table index) fun t => by
    unfold State.setIndex
    split
    · exact plain_fits _
    · split <;> exact plain_fits _

theorem acts_writeMap (key : Bool) (n : Nat) (terms : List WireTerm) :
    Acts (State.judgedByKey key State.refuseWrite (State.writeMap n terms)) :=
  acts_write key _ (fun _ => .map n terms) fun t => by
    unfold State.writeMap
    split
    · split <;> exact plain_fits _
    · exact plain_fits _
    · exact plain_fits _

theorem acts_writeSect (key : Bool) (a b c d : Nat) :
    Acts (State.judgedByKey key State.refuseWrite (State.writeSect a b c d)) :=
  acts_write key _ (fun _ => .sect a b c d) fun t => by
    unfold State.writeSect
    split <;> exact plain_fits _

theorem acts_writeGlobals (key : Bool) (g : Globals) (p q : LinkParams) :
    Acts (State.judgedByKey key State.refuseWrite (State.writeGlobals g p q)) :=
  acts_write key _ (fun _ => .globals g p q) fun _ => plain_fits _

theorem acts_endLoad (key : Bool) : Acts (State.judgedByKey key State.refuseWrite State.endLoad) :=
  acts_write key _ (fun _ => .endLoad) fun _ => plain_fits _

theorem acts_beginLoad (key : Bool) : Acts (State.judgedByKey key State.refuseBegin State.beginLoad) :=
  acts_judgedByKey key _ _ fun _ ht => ⟨(ModeMove.beginLoad (not_locked_of_begin ht)).moves, plain_fits _⟩

theorem acts_restart (key : Bool) : Acts (State.judgedByKey key State.refuseBegin State.restart) :=
  acts_judgedByKey key _ _ fun _ ht => ⟨(ModeMove.restart (not_locked_of_begin ht)).moves, plain_fits _⟩

theorem acts_loadStatus : Acts State.loadStatus := by
  intro s
  refine ⟨Moves.refl s, ?_⟩
  unfold State.loadStatus
  cases s.offending <;> cases s.inForce <;> simp [bytes32]

theorem acts_readHead (n : Nat) : Acts fun s => s.readHead n := by
  intro s
  simp only [State.readHead]
  split
  · exact ⟨Moves.refl s, plain_fits _⟩
  · exact ⟨Moves.refl s, by simp⟩

theorem acts_readHalt : Acts State.readHalt := fun s => ⟨Moves.refl s, by simp [State.readHalt]⟩

end Sys2Proof.Machine
end

section
/-! PROOFS. Every command is a sequence of moves. Of a sampling step this needs that the heads have no change and no glitch to be taken once what
is due has been taken (R3), so that its samples find every head settled. -/

namespace Sys2Proof.Machine

/-! ### What the operations of a head do to its channels -/

/-- Two head records have the same qualified levels, raw levels and candidate counts. -/
structure Head.SameChannels (h g : Head) : Prop where
  q1 : g.q1 = h.q1
  q2 : g.q2 = h.q2
  cand1 : g.cand1 = h.cand1
  cand2 : g.cand2 = h.cand2
  raw1 : g.raw1 = h.raw1
  raw2 : g.raw2 = h.raw2

theorem Head.SameChannels.refl (h : Head) : h.SameChannels h := ⟨rfl, rfl, rfl, rfl, rfl, rfl⟩

theorem Head.SameChannels.trans {h g f : Head} (a : h.SameChannels g) (b : g.SameChannels f) : h.SameChannels f :=
  ⟨b.q1.trans a.q1, b.q2.trans a.q2, b.cand1.trans a.cand1, b.cand2.trans a.cand2, b.raw1.trans a.raw1, b.raw2.trans a.raw2⟩

/-- The outcome of an operation on one head: that head's record is changed, with notices asked for, and nothing else. -/
def OnHead (d : DP) (s t : State) : Prop := ∃ h a, t = (s.setHead d h).asks a

theorem setHead_self (s : State) (d : DP) : s.setHead d s.heads[d] = s := by
  unfold State.setHead
  have hset : s.heads.set d s.heads[d] = s.heads := by simp
  rw [hset]

theorem setHead_setHead (s : State) (d : DP) (g h : Head) : (s.setHead d g).setHead d h = s.setHead d h := by
  unfold State.setHead
  simp

theorem OnHead.refl (d : DP) (s : State) : OnHead d s s := ⟨s.heads[d], fun _ => [], by rw [setHead_self, asks_nil]⟩

theorem OnHead.set (d : DP) (s : State) (h : Head) : OnHead d s (s.setHead d h) := ⟨h, fun _ => [], (asks_nil _).symm⟩

theorem OnHead.trans {d : DP} {s t u : State} (a : OnHead d s t) (b : OnHead d t u) : OnHead d s u := by
  obtain ⟨g, x, rfl⟩ := a
  obtain ⟨h, y, rfl⟩ := b
  refine ⟨h, fun l => x l ++ y l, ?_⟩
  rw [← asks_asks, ← setHead_setHead s d g h]
  rfl

theorem OnHead.qual {d : DP} {s t : State} (h : OnHead d s t) : t.qual = s.qual := by
  obtain ⟨g, a, rfl⟩ := h; rfl

theorem OnHead.mode {d : DP} {s t : State} (h : OnHead d s t) : t.mode = s.mode := by
  obtain ⟨g, a, rfl⟩ := h; rfl

theorem OnHead.heads_ne {d : DP} {s t : State} (h : OnHead d s t) (e : DP) (n : e ≠ d) : t.heads[e] = s.heads[e] := by
  obtain ⟨g, a, rfl⟩ := h
  exact heads_setHead_ne s d e g n

theorem onHead_enterFault (s : State) (d : DP) (c : FaultCause) : OnHead d s (s.enterFault d c) := ⟨_, _, enterFault_eq s d c⟩

theorem heads_enterFault (s : State) (d : DP) (c : FaultCause) :
    (s.enterFault d c).heads[d] = { s.heads[d] with
      state := .fault
      lastCause := c
      passageStart := none
      lastAxle := none
      recovery := 0
      outbox := s.heads[d].outbox ++ [.classChange .fault] } := by
  rw [enterFault_eq]
  exact heads_setHead_same s d _

/-- The fault input acts in a running mode on a head that sees it active (R16, R18). -/
theorem takeFaultInput_cases (s : State) (d : DP) :
    ((s.mode.running = false ∨ s.heads[d].faultIn = false) ∧ s.takeFaultInput d = s) ∨
    (s.mode.running = true ∧ s.heads[d].faultIn = true ∧ s.heads[d].state = .fault ∧
      s.takeFaultInput d = s.setHead d { s.heads[d] with lastCause := .frontEnd, recovery := 0 }) ∨
    (s.mode.running = true ∧ s.heads[d].faultIn = true ∧ s.heads[d].state ≠ .fault ∧
      s.takeFaultInput d = s.enterFault d .frontEnd) := by
  cases hrun : s.mode.running with
  | false => exact .inl ⟨.inl rfl, takeFaultInput_of_held s d hrun⟩
  | true =>
    cases hin : s.heads[d].faultIn with
    | false => exact .inl ⟨.inr rfl, takeFaultInput_of_inactive s d hin⟩
    | true =>
      by_cases hfault : s.heads[d].state = .fault
      · exact .inr (.inl ⟨rfl, rfl, hfault, by unfold State.takeFaultInput; simp only [hrun, hin, hfault, Bool.and_self, if_true]⟩)
      · exact .inr (.inr ⟨rfl, rfl, hfault, by
          unfold State.takeFaultInput; simp only [hrun, hin, hfault, Bool.and_self, if_true, if_false]⟩)

theorem takeFaultInput_onHead (s : State) (d : DP) :
    OnHead d s (s.takeFaultInput d) ∧ s.heads[d].SameChannels (s.takeFaultInput d).heads[d] := by
  obtain ⟨_, h⟩ | ⟨_, _, _, h⟩ | ⟨_, _, _, h⟩ := takeFaultInput_cases s d <;> rw [h]
  · exact ⟨OnHead.refl d s, Head.SameChannels.refl _⟩
  · rw [heads_setHead_same]
    exact ⟨OnHead.set d s _, rfl, rfl, rfl, rfl, rfl, rfl⟩
  · rw [heads_enterFault]
    exact ⟨onHead_enterFault s d _, rfl, rfl, rfl, rfl, rfl, rfl⟩

theorem clearGlitches_channels {h g : Head} (a : h.SameChannels g) : h.clearGlitches.SameChannels g.clearGlitches := by
  obtain ⟨hq1, hq2, hc1, hc2, hr1, hr2⟩ := a
  constructor <;> simp [Head.clearGlitches, Head.glitch1, Head.glitch2, hq1, hq2, hc1, hc2, hr1, hr2]

theorem requalify_channels {h g : Head} (qual : Nat) (a : h.SameChannels g) :
    (h.requalify qual).SameChannels (g.requalify qual) := by
  obtain ⟨hq1, hq2, hc1, hc2, hr1, hr2⟩ := a
  constructor <;> simp [Head.requalify, Head.changed1, Head.changed2, hq1, hq2, hc1, hc2, hr1, hr2]

/-- With no glitch to take nothing is cleared. -/
theorem clearGlitches_of_none {h : Head} (n : h.glitches = 0) : h.clearGlitches = h := by
  unfold Head.glitches at n
  have h1 : h.glitch1 = false := by
    cases hg : h.glitch1 with
    | false => rfl
    | true => simp [hg] at n
  have h2 : h.glitch2 = false := by
    cases hg : h.glitch2 with
    | false => rfl
    | true => simp [hg] at n
  simp [Head.clearGlitches, h1, h2]

/-- With no change to take no level is moved. -/
theorem requalify_of_none {qual : Nat} {h : Head} (h1 : h.changed1 qual = false) (h2 : h.changed2 qual = false) :
    h.requalify qual = h := by
  simp [Head.requalify, h1, h2]

theorem takeGlitch_onHead (s : State) (d : DP) :
    OnHead d s (s.takeGlitch d) ∧ s.heads[d].clearGlitches.SameChannels (s.takeGlitch d).heads[d] := by
  by_cases hnone : s.heads[d].glitches = 0
  · rw [takeGlitch_of_none s d hnone, clearGlitches_of_none hnone]
    exact ⟨OnHead.refl d s, Head.SameChannels.refl _⟩
  · obtain ⟨hon, hsame⟩ := takeFaultInput_onHead s d
    have hclear := clearGlitches_channels hsame
    unfold State.takeGlitch
    rw [if_neg hnone]
    simp only
    split
    · split
      · refine ⟨(hon.trans (OnHead.set d _ _)).trans (onHead_enterFault _ d _), ?_⟩
        rw [heads_enterFault, heads_setHead_same]
        exact hclear.trans ⟨rfl, rfl, rfl, rfl, rfl, rfl⟩
      · refine ⟨hon.trans (OnHead.set d _ _), ?_⟩
        rw [heads_setHead_same]
        exact hclear.trans ⟨rfl, rfl, rfl, rfl, rfl, rfl⟩
    · refine ⟨hon.trans (OnHead.set d _ _), ?_⟩
      rw [heads_setHead_same]
      exact hclear

theorem onHead_set_channels (s : State) (d : DP) (h : Head) (hsame : s.heads[d].SameChannels h) :
    OnHead d s (s.setHead d h) ∧ s.heads[d].SameChannels (s.setHead d h).heads[d] := by
  rw [heads_setHead_same]
  exact ⟨OnHead.set d s h, hsame⟩

theorem enterFault_onHead (s : State) (d : DP) (c : FaultCause) :
    OnHead d s (s.enterFault d c) ∧ s.heads[d].SameChannels (s.enterFault d c).heads[d] := by
  rw [heads_enterFault]
  exact ⟨onHead_enterFault s d c, rfl, rfl, rfl, rfl, rfl, rfl⟩

/-- A move within the head's table never touches the channels (R10 to R12, R14). -/
theorem followPair_onHead (s : State) (d : DP) :
    OnHead d s (s.followPair d) ∧ s.heads[d].SameChannels (s.followPair d).heads[d] := by
  have hset : ∀ h : Head, s.heads[d].SameChannels h →
      OnHead d s (s.setHead d h) ∧ s.heads[d].SameChannels (s.setHead d h).heads[d] := onHead_set_channels s d
  have hmove : ∀ x, OnHead d s (s.moveTo d x) ∧ s.heads[d].SameChannels (s.moveTo d x).heads[d] :=
    fun x => hset _ ⟨rfl, rfl, rfl, rfl, rfl, rfl⟩
  have hback : OnHead d s (s.withdrawHead d) ∧ s.heads[d].SameChannels (s.withdrawHead d).heads[d] :=
    hset _ ⟨rfl, rfl, rfl, rfl, rfl, rfl⟩
  have hdepart : ∀ x, OnHead d s (s.depart d x) ∧ s.heads[d].SameChannels (s.depart d x).heads[d] := by
    intro x
    unfold State.depart
    simp only
    split
    · exact enterFault_onHead s d _
    · exact hset _ ⟨rfl, rfl, rfl, rfl, rfl, rfl⟩
  have hreturn : ∀ x, OnHead d s (s.countingReturn d x) ∧ s.heads[d].SameChannels (s.countingReturn d x).heads[d] := by
    intro x
    unfold State.countingReturn
    simp only
    split
    · exact enterFault_onHead s d _
    · exact hset _ ⟨rfl, rfl, rfl, rfl, rfl, rfl⟩
  unfold State.followPair
  split
  case h_1 | h_2 => exact hdepart _
  case h_4 | h_10 => exact hback
  case h_8 | h_14 => exact hreturn _
  case h_15 => exact ⟨OnHead.refl d s, Head.SameChannels.refl _⟩
  all_goals exact hmove _

/-- Whether a head has a qualified change to be taken (R3). -/
def State.changeDue (s : State) (d : DP) : Bool := s.heads[d].changed1 s.qual || s.heads[d].changed2 s.qual

/-- A qualified change that is due: the fault input and the glitches of the step first, then the levels, then the head's move (R3, R4, R8, R13; log 4). -/
theorem takeChange_of_due (s : State) (d : DP) (h : s.changeDue d = true) :
    s.takeChange d =
      let u := (s.takeFaultInput d).takeGlitch d
      let t := u.setHead d (u.heads[d].requalify s.qual)
      if (s.mode.running && u.heads[d].state.follows) = true then
        if (s.heads[d].changed1 s.qual && s.heads[d].changed2 s.qual) = true then t.enterFault d .transition else t.followPair d
      else t := by
  have hon : OnHead d s ((s.takeFaultInput d).takeGlitch d) :=
    (takeFaultInput_onHead s d).1.trans (takeGlitch_onHead (s.takeFaultInput d) d).1
  simp only
  rw [← hon.qual, ← hon.mode, hon.qual]
  exact (if_pos h).trans (by simp only [hon.qual])

/-- A qualified change moves the levels of its channels after the glitches of the step (R3). -/
theorem takeChange_onHead (s : State) (d : DP) :
    OnHead d s (s.takeChange d) ∧
      (s.changeDue d = true → (s.heads[d].clearGlitches.requalify s.qual).SameChannels (s.takeChange d).heads[d]) := by
  cases hdue : s.changeDue d with
  | true =>
    obtain ⟨hfault, hsameFault⟩ := takeFaultInput_onHead s d
    obtain ⟨hglitch, hsameGlitch⟩ := takeGlitch_onHead (s.takeFaultInput d) d
    have hon : OnHead d s ((s.takeFaultInput d).takeGlitch d) := hfault.trans hglitch
    have hsame := (clearGlitches_channels hsameFault).trans hsameGlitch
    rw [takeChange_of_due s d hdue]
    simp only [true_implies]
    generalize (s.takeFaultInput d).takeGlitch d = t at hon hsame
    have hlevels : (s.heads[d].clearGlitches.requalify s.qual).SameChannels
        (t.setHead d (t.heads[d].requalify s.qual)).heads[d] := by
      rw [heads_setHead_same]; exact requalify_channels s.qual hsame
    have hset : OnHead d s (t.setHead d (t.heads[d].requalify s.qual)) := hon.trans (OnHead.set d t _)
    split
    · split
      · obtain ⟨ho, hs⟩ := enterFault_onHead (t.setHead d (t.heads[d].requalify s.qual)) d .transition
        exact ⟨hset.trans ho, hlevels.trans hs⟩
      · obtain ⟨ho, hs⟩ := followPair_onHead (t.setHead d (t.heads[d].requalify s.qual)) d
        exact ⟨hset.trans ho, hlevels.trans hs⟩
    · exact ⟨hset, hlevels⟩
  | false =>
    obtain ⟨h1, h2⟩ := Bool.or_eq_false_iff.mp hdue
    rw [takeChange_of_none s d h1 h2]
    exact ⟨OnHead.refl d s, fun hc => by cases hc⟩

theorem takeRecovery_onHead (s : State) (d : DP) (x : HeadState) :
    OnHead d s (s.takeRecovery d x) ∧ s.heads[d].SameChannels (s.takeRecovery d x).heads[d] := by
  unfold State.takeRecovery
  simp only
  split
  · exact onHead_set_channels s d _ ⟨rfl, rfl, rfl, rfl, rfl, rfl⟩
  · exact ⟨OnHead.refl d s, Head.SameChannels.refl _⟩

/-! ### What is due leaves the heads settled -/

theorem Head.Settled.of_same {qual : Nat} {h g : Head} (s : h.Settled qual) (a : h.SameChannels g) : g.Settled qual := by
  obtain ⟨hq1, hq2, hc1, hc2, hr1, hr2⟩ := a
  unfold Head.Settled
  rw [hq1, hq2, hc1, hc2, hr1, hr2]
  exact s

/-- A head whose glitches and changes have been taken is settled. -/
theorem settled_clear_requalify (qual : Nat) (h : Head) : (h.clearGlitches.requalify qual).Settled qual := by
  unfold Head.Settled Head.requalify Head.changed1 Head.changed2 Head.clearGlitches Head.glitch1 Head.glitch2
  refine ⟨?_, ?_, ?_, ?_⟩
  · by_cases hr : h.raw1 = h.q1 <;> by_cases hq : qual ≤ h.cand1 <;> simp [hr, hq]
    omega
  · by_cases hr : h.raw2 = h.q2 <;> by_cases hq : qual ≤ h.cand2 <;> simp [hr, hq]
    omega
  · by_cases hr : h.raw1 = h.q1 <;> by_cases hq : qual ≤ h.cand1 <;> simp [hr, hq]
  · by_cases hr : h.raw2 = h.q2 <;> by_cases hq : qual ≤ h.cand2 <;> simp [hr, hq]

theorem clearGlitches_glitches (h : Head) : h.clearGlitches.glitches = 0 := by
  have h1 : h.clearGlitches.glitch1 = false := by
    by_cases hr : h.raw1 = h.q1 <;> by_cases hc : 0 < h.cand1 <;> simp [Head.clearGlitches, Head.glitch1, hr, hc]
  have h2 : h.clearGlitches.glitch2 = false := by
    by_cases hr : h.raw2 = h.q2 <;> by_cases hc : 0 < h.cand2 <;> simp [Head.clearGlitches, Head.glitch2, hr, hc]
  simp [Head.glitches, h1, h2]

/-- Clearing the glitches again clears nothing. -/
theorem clearGlitches_idem (h : Head) : h.clearGlitches.clearGlitches = h.clearGlitches :=
  clearGlitches_of_none (clearGlitches_glitches h)

theorem takeHead_onHead (s : State) (d : DP) :
    OnHead d s (s.takeHead d) ∧ (s.takeHead d).heads[d].Settled s.qual := by
  obtain ⟨hfault, hsameFault⟩ := takeFaultInput_onHead s d
  obtain ⟨hglitch, hsameGlitch⟩ := takeGlitch_onHead (s.takeFaultInput d) d
  obtain ⟨hchange, hlevels⟩ := takeChange_onHead ((s.takeFaultInput d).takeGlitch d) d
  obtain ⟨hrec1, hsame1⟩ := takeRecovery_onHead (((s.takeFaultInput d).takeGlitch d).takeChange d) d .fault
  obtain ⟨hrec2, hsame2⟩ := takeRecovery_onHead ((((s.takeFaultInput d).takeGlitch d).takeChange d).takeRecovery d .fault) d .unknown
  have hcleared := (clearGlitches_channels hsameFault).trans hsameGlitch
  have hqual : ((s.takeFaultInput d).takeGlitch d).qual = s.qual := (hfault.trans hglitch).qual
  refine ⟨(((hfault.trans hglitch).trans hchange).trans hrec1).trans hrec2, ?_⟩
  refine Head.Settled.of_same ?_ (hsame1.trans hsame2)
  generalize (s.takeFaultInput d).takeGlitch d = t at hcleared hqual hlevels
  rw [← hqual]
  have hnormal : t.heads[d].clearGlitches.SameChannels t.heads[d] := by
    have hback := clearGlitches_channels hcleared
    rw [clearGlitches_idem] at hback
    obtain ⟨a1, a2, a3, a4, a5, a6⟩ := hcleared
    obtain ⟨b1, b2, b3, b4, b5, b6⟩ := hback
    exact ⟨a1.trans b1.symm, a2.trans b2.symm, a3.trans b3.symm, a4.trans b4.symm, a5.trans b5.symm, a6.trans b6.symm⟩
  cases hdue : t.changeDue d with
  | true => exact (settled_clear_requalify t.qual t.heads[d]).of_same (hlevels hdue)
  | false =>
    obtain ⟨h1, h2⟩ := Bool.or_eq_false_iff.mp hdue
    have hs := (settled_clear_requalify t.qual t.heads[d]).of_same (requalify_channels t.qual hnormal)
    rw [takeChange_of_none t d h1 h2]
    rwa [requalify_of_none h1 h2] at hs

/-- Every head is settled. -/
def State.Settled (s : State) : Prop := ∀ d : DP, s.heads[d].Settled s.qual

theorem settled_of_heads {s t : State} (hheads : t.heads = s.heads) (hqual : t.qual = s.qual) (h : s.Settled) : t.Settled := by
  intro d
  rw [hqual, hheads]
  exact h d

theorem keepBelow_settled (qual n : Nat) : (keepBelow qual n < qual ∨ keepBelow qual n = 0) ∧ (n = 0 → keepBelow qual n = 0) := by
  unfold keepBelow
  split <;> omega

/-- A head put into UNKNOWN is settled under the new QUAL, if it was under the old one (R5; log 30). -/
theorem settled_toUnknown (qual : Nat) {old : Nat} {h : Head} (s : h.Settled old) : (h.toUnknown qual).Settled qual :=
  ⟨(keepBelow_settled _ _).1, (keepBelow_settled _ _).1, fun hr => (keepBelow_settled _ _).2 (s.2.2.1 hr),
    fun hr => (keepBelow_settled _ _).2 (s.2.2.2 hr)⟩

@[simp] theorem enterImage_heads (s : State) (i : Image) (g : Signature) (d : DP) :
    (s.enterImage i g).heads[d] = s.heads[d].toUnknown i.globals.qual := heads_mapHeads s _ d

theorem settled_enterImage {s : State} (h : s.Settled) (i : Image) (g : Signature) : (s.enterImage i g).Settled := by
  intro d
  rw [enterImage_heads]
  exact settled_toUnknown _ (h d)

/-- Moves that leave settled heads settled. -/
structure Settling (s t : State) : Prop where
  moves : Moves s t
  settled : s.Settled → t.Settled

theorem Settling.trans {s t u : State} (h : Settling s t) (k : Settling t u) : Settling s u :=
  ⟨h.moves.trans k.moves, fun hs => k.settled (h.settled hs)⟩

theorem Settling.of_heads {s t : State} (hmoves : Moves s t) (hheads : t.heads = s.heads) (hqual : t.qual = s.qual) :
    Settling s t := ⟨hmoves, settled_of_heads hheads hqual⟩

theorem Settling.refl (s : State) : Settling s s := ⟨Moves.refl s, id⟩

theorem settling_foldl {α : Type} (f : State → α → State) (h : ∀ s a, Settling s (f s a)) (xs : List α) (s : State) :
    Settling s (xs.foldl f s) := by
  induction xs generalizing s with
  | nil => exact Settling.refl s
  | cons x xs ih => exact (h s x).trans (ih _)

theorem moves_takeHead (s : State) (d : DP) : Moves s (s.takeHead d) :=
  ((((HeadMove.faultInput d).moves.trans (HeadMove.glitch d).moves).trans (HeadMove.change d).moves).trans
    (HeadMove.recovery d .fault (.inl rfl)).moves).trans (HeadMove.recovery d .unknown (.inr rfl)).moves

theorem moves_takeHeads (ds : List DP) (s : State) : Moves s (ds.foldl State.takeHead s) := moves_foldl _ moves_takeHead ds s

/-- Once every head of a list has been seen to, those heads are settled. -/
theorem takeHeads_settled (ds : List DP) (h : ds.Nodup) (s : State) :
    (ds.foldl State.takeHead s).qual = s.qual ∧
      (∀ d ∉ ds, (ds.foldl State.takeHead s).heads[d] = s.heads[d]) ∧
      ∀ d ∈ ds, (ds.foldl State.takeHead s).heads[d].Settled s.qual := by
  induction ds generalizing s with
  | nil => exact ⟨rfl, fun _ _ => rfl, fun d hd => by cases hd⟩
  | cons x xs ih =>
    obtain ⟨hx, hxs⟩ := List.nodup_cons.mp h
    obtain ⟨hon, hsettled⟩ := takeHead_onHead s x
    obtain ⟨hqual, hout, hin⟩ := ih hxs (s.takeHead x)
    rw [List.foldl_cons]
    refine ⟨hqual.trans hon.qual, fun d hd => ?_, fun d hd => ?_⟩
    · rw [List.mem_cons, not_or] at hd
      rw [hout d hd.2, hon.heads_ne d hd.1]
    · rcases List.mem_cons.mp hd with rfl | hd
      · rw [hout _ hx]; exact hsettled
      · rw [← hon.qual]; exact hin d hd

theorem allHeads_settled (s : State) : ((List.finRange 32).foldl State.takeHead s).Settled := by
  obtain ⟨hqual, _, hin⟩ := takeHeads_settled (List.finRange 32) (List.nodup_finRange 32) s
  intro d
  rw [hqual]
  exact hin d (List.mem_finRange d)

theorem drain_channels (h : Head) : h.SameChannels h.drain := by
  unfold Head.drain
  split
  · exact ⟨rfl, rfl, rfl, rfl, rfl, rfl⟩
  · exact Head.SameChannels.refl h

theorem settling_drainBuckets (s : State) : Settling s s.drainBuckets := by
  refine ⟨HeadMove.drain.moves, fun h => ?_⟩
  unfold State.drainBuckets
  split
  · intro d
    have hheads : ({ s.mapHeads Head.drain with drainDue := false } : State).heads[d] = s.heads[d].drain := heads_mapHeads s _ d
    have hqual : ({ s.mapHeads Head.drain with drainDue := false } : State).qual = s.qual := rfl
    rw [hheads, hqual]
    exact (h d).of_same (drain_channels _)
  · exact h

theorem settling_takeSettle (s : State) (k : SectNo) : Settling s (s.takeSettle k) := by
  refine Settling.of_heads (SectMove.settle k).moves ?_ ?_ <;> unfold State.takeSettle <;> split
  all_goals first | rfl | (rw [changeSects_eq_reported]; rfl)

theorem settling_takePeriod (s : State) : Settling s s.takePeriod := by
  refine Settling.of_heads AsideMove.period.moves ?_ ?_ <;> unfold State.takePeriod <;> split <;> rfl

theorem moves_takeWindow (s : State) (k : SectNo) : Moves s (s.takeWindow k) := by
  unfold State.takeWindow
  split
  · exact (SectMove.dropRecord k).moves
  · exact Moves.refl s

theorem settling_takeWindow (s : State) (k : SectNo) : Settling s (s.takeWindow k) := by
  refine Settling.of_heads (moves_takeWindow s k) ?_ ?_ <;> unfold State.takeWindow <;> split
  all_goals first | rfl | (rw [dropRecord_eq]; rfl)

theorem settling_startScrub (s : State) : Settling s s.startScrub := by
  refine Settling.of_heads IntegrityMove.startScrub.moves ?_ ?_ <;> unfold State.startScrub <;> split <;> rfl

theorem moves_endClockWindow (s : State) : Moves s s.endClockWindow := by
  unfold State.endClockWindow
  simp only
  split
  · exact IntegrityMove.endWindow.moves.trans (moves_raiseHalt _ _)
  · exact IntegrityMove.endWindow.moves

/-- A halt leaves the heads and QUAL alone: HALTED is a running mode like COUNTING. -/
theorem raiseHalt_heads (s : State) (c : HaltCause) : (s.raiseHalt c).heads = s.heads ∧ (s.raiseHalt c).qual = s.qual := by
  by_cases hc : s.mode = .counting
  · rw [raiseHalt_of_counting s c hc, enterHalted_eq]
    refine ⟨rfl, ?_⟩
    unfold State.qual
    rw [hc]; rfl
  · by_cases hh : s.mode = .halted
    · rw [raiseHalt_of_halted s c hh]; exact ⟨rfl, rfl⟩
    · rw [raiseHalt_of_other s c hc hh]; exact ⟨rfl, rfl⟩

theorem settling_takeFullWindow (s : State) : Settling s s.takeFullWindow := by
  unfold State.takeFullWindow
  split
  · obtain ⟨hheads, hqual⟩ := raiseHalt_heads { s with clockTicks := 0 } .clockDeviation
    refine Settling.of_heads (moves_endClockWindow s) ?_ ?_ <;> unfold State.endClockWindow <;> simp only <;> split
    · exact hheads
    · rfl
    · exact hqual
    · rfl
  · exact Settling.refl s

/-- Between held modes QUAL is the same, whatever the working image (R5). -/
theorem qual_of_held {s t : State} (hs : s.mode.running = false) (ht : t.mode.running = false) : t.qual = s.qual := by
  simp [State.qual, hs, ht]

theorem settling_completeStart (s : State) : Settling s s.completeStart := by
  refine ⟨ModeMove.start.moves, fun h => ?_⟩
  unfold State.completeStart
  split
  case isTrue hdue =>
    have hheld : s.mode.running = false := by rw [hdue.1]; rfl
    have hbad : State.Settled { s with mode := .unconfigured, image := Image.default, inForce := none, opTimer := 0 } :=
      settled_of_heads (s := s) rfl (qual_of_held hheld rfl) h
    simp only
    split
    · exact hbad
    · split
      · exact settled_enterImage h _ _
      · exact hbad
  case isFalse => exact h

theorem settling_completeClearing (s : State) : Settling s s.completeClearing := by
  refine ⟨ModeMove.clearing.moves, fun h => ?_⟩
  unfold State.completeClearing
  split
  case isTrue hdue =>
    have hheld : s.mode.running = false := by rw [hdue.1]; rfl
    exact settled_of_heads (s := s) rfl (qual_of_held hheld hheld) h
  case isFalse => exact h

theorem settling_completeVerify (s : State) : Settling s s.completeVerify := by
  refine ⟨ModeMove.verify.moves, fun h => ?_⟩
  unfold State.completeVerify
  split
  case isTrue hdue =>
    have hheld : s.mode.running = false := by rw [hdue.1]; rfl
    split
    · exact settled_of_heads (s := s) rfl (qual_of_held hheld rfl) h
    · exact settled_enterImage (s := { s with store := some ⟨s.image, s.image.signature⟩ }) h _ _
  case isFalse => exact h

theorem settling_takeReport (s : State) (l : SupLink) : Settling s (s.takeReport l) := by
  refine Settling.of_heads (LinkMove.takeReport l).moves ?_ ?_ <;> unfold State.takeReport <;> split
  all_goals cases l <;> rfl

theorem settling_takePulseEnd (s : State) (l : SupLink) : Settling s (s.takePulseEnd l) :=
  Settling.of_heads (LinkMove.takePulseEnd l).moves (setSup_heads s l _) (by cases l <;> rfl)

/-- What is due is taken by moves, after which every head is settled. -/
theorem takeDue_moves (s : State) : Moves s s.takeDue ∧ s.takeDue.Settled := by
  have hrest : Settling ((List.finRange 32).foldl State.takeHead s) s.takeDue := by
    unfold State.takeDue
    simp only
    refine Settling.trans ?_ (settling_takePulseEnd _ _)
    refine Settling.trans ?_ (settling_takePulseEnd _ _)
    refine Settling.trans ?_ (settling_takeReport _ _)
    refine Settling.trans ?_ (settling_takeReport _ _)
    refine Settling.trans ?_ (settling_completeVerify _)
    refine Settling.trans ?_ (settling_completeClearing _)
    refine Settling.trans ?_ (settling_completeStart _)
    refine Settling.trans ?_ (settling_takeFullWindow _)
    refine Settling.trans ?_ (settling_startScrub _)
    refine Settling.trans ?_ (settling_foldl _ settling_takeWindow _ _)
    refine Settling.trans ?_ (settling_takePeriod _)
    refine Settling.trans ?_ (settling_foldl _ settling_takeSettle _ _)
    exact settling_drainBuckets _
  exact ⟨(moves_takeHeads _ s).trans hrest.moves, hrest.settled (allHeads_settled s)⟩

theorem moves_sampling (s : State) (inputs : Vector Sample 32) : Moves s (s.sampling inputs) := by
  obtain ⟨hmoves, hsettled⟩ := takeDue_moves s
  have hsampled : Moves s (s.takeDue.sampleAll inputs) := hmoves.trans (Move.sample inputs hsettled).moves
  unfold State.sampling
  simp only
  split
  · exact hsampled.trans Move.tick.moves
  · exact hsampled

/-! ### Every command is a sequence of moves -/

theorem moves_completeScrub (s : State) (read : ScrubRead) : Moves s (s.completeScrub read) := by
  unfold State.completeScrub
  split
  · simp only
    split
    · split
      · exact IntegrityMove.endPass.moves.trans (IntegrityMove.clearErrors (s := { s with scrubPass := false })).moves
      · exact IntegrityMove.endPass.moves
    · exact IntegrityMove.endPass.moves.trans (moves_raiseHalt _ _)
  · exact Moves.refl s

/-- Every command answers a state that moves lead to. -/
theorem exec_moves (c : Instr) (s : State) : ∃ t, exec c s = .next t ∧ Moves s t := by
  cases c with
  | powerOn => exact ⟨_, rfl, ModeMove.powerOn.moves⟩
  | qualifiedChange d => exact ⟨_, rfl, (HeadMove.change d).moves⟩
  | glitch d => exact ⟨_, rfl, (HeadMove.glitch d).moves⟩
  | bucketDrain => exact ⟨_, rfl, HeadMove.drain.moves⟩
  | frontEndFault d => exact ⟨_, rfl, (HeadMove.faultInput d).moves⟩
  | headRecovery d => exact ⟨_, rfl, (HeadMove.recovery d .fault (.inl rfl)).moves⟩
  | unknownRecovery d => exact ⟨_, rfl, (HeadMove.recovery d .unknown (.inr rfl)).moves⟩
  | axleEvent d read1 read2 => exact ⟨_, rfl, moves_takeAxle s d read1 read2⟩
  | headClassChange d => exact ⟨_, rfl, moves_takeClass s d⟩
  | settleExpiry k => exact ⟨_, rfl, (SectMove.settle k).moves⟩
  | historyPeriodExpiry => exact ⟨_, rfl, AsideMove.period.moves⟩
  | concurWindowExpiry k => exact ⟨_, rfl, moves_takeWindow s k⟩
  | scrubStart => exact ⟨_, rfl, IntegrityMove.startScrub.moves⟩
  | scrubComplete read => exact ⟨_, rfl, moves_completeScrub s read⟩
  | clockWindowEnd => exact ⟨_, rfl, moves_endClockWindow s⟩
  | startComplete => exact ⟨_, rfl, ModeMove.start.moves⟩
  | clearingComplete => exact ⟨_, rfl, ModeMove.clearing.moves⟩
  | verifyComplete => exact ⟨_, rfl, ModeMove.verify.moves⟩
  | svkeyInactive => exact ⟨_, rfl, moves_keyInactive s⟩
  | resetPrep l n => exact ⟨_, rfl, moves_takeSup s l _ (acts_requestReset .prep l n)⟩
  | resetDirect l n => exact ⟨_, rfl, moves_takeSup s l _ (acts_requestReset .direct l n)⟩
  | resetCancel l n => exact ⟨_, rfl, moves_takeSup s l _ (acts_cancelReset l n)⟩
  | sectionDetail l n => exact ⟨_, rfl, moves_takeSup s l _ (acts_sectDetail n)⟩
  | noticeAck l m => exact ⟨_, rfl, moves_takeSup s l _ fun _ => ⟨(LinkMove.ackNotices l m).moves, plain_fits _⟩⟩
  | noticeMask l m a => exact ⟨_, rfl, moves_takeSup s l _ fun _ => ⟨(LinkMove.takeMask l m a).moves, plain_fits _⟩⟩
  | endorse l g => exact ⟨_, rfl, moves_takeSup s l _ (acts_endorse l g)⟩
  | withdraw l => exact ⟨_, rfl, moves_takeSup s l _ (acts_withdraw l)⟩
  | loadBegin key => exact ⟨_, rfl, moves_takeSvc s _ (acts_beginLoad key)⟩
  | loadStatus => exact ⟨_, rfl, moves_takeSvc s _ acts_loadStatus⟩
  | loadIndex key t i => exact ⟨_, rfl, moves_takeSvc s _ (acts_setIndex key t i)⟩
  | mapEntry key d ts => exact ⟨_, rfl, moves_takeSvc s _ (acts_writeMap key d ts)⟩
  | sectionEntry key a b c d => exact ⟨_, rfl, moves_takeSvc s _ (acts_writeSect key a b c d)⟩
  | globalEntry key g p q => exact ⟨_, rfl, moves_takeSvc s _ (acts_writeGlobals key g p q)⟩
  | loadEnd key => exact ⟨_, rfl, moves_takeSvc s _ (acts_endLoad key)⟩
  | restart key => exact ⟨_, rfl, moves_takeSvc s _ (acts_restart key)⟩
  | headRead n => exact ⟨_, rfl, moves_takeSvc s _ (acts_readHead n)⟩
  | haltRead => exact ⟨_, rfl, moves_takeSvc s _ acts_readHalt⟩
  | telegramEnd l => exact ⟨_, rfl, (LinkMove.telegramEnd l).moves⟩
  | responseStart l => exact ⟨_, rfl, (LinkMove.startResponse l).moves⟩
  | statusStart l => exact ⟨_, rfl, (LinkMove.startStatus l).moves⟩
  | eventsStart l => exact ⟨_, rfl, (LinkMove.startEvents l).moves⟩
  | transmitEnd l => exact ⟨_, rfl, (LinkMove.endTransmit l).moves⟩
  | gapEnd l => exact ⟨_, rfl, (LinkMove.endGap l).moves⟩
  | reportTimerExpiry l => exact ⟨_, rfl, (LinkMove.takeReport l).moves⟩
  | lineRateChange l flow =>
    cases flow with
    | receive => exact ⟨_, rfl, (LinkMove.settleRxRate (.sup l)).moves⟩
    | transmit => exact ⟨_, rfl, (LinkMove.settleTxRate (.sup l)).moves⟩
  | noticeSet l n => exact ⟨_, rfl, (LinkMove.takeAsked l n).moves⟩
  | attnPulseEnd l => exact ⟨_, rfl, (LinkMove.takePulseEnd l).moves⟩
  | samplingStep inputs => exact ⟨_, rfl, moves_sampling s inputs⟩
  | characterReceived l c => exact ⟨_, rfl, (LinkMove.character l c).moves⟩

/-- A step is a sequence of moves. -/
theorem step_moves {s t : State} (h : step s = .next t) : Moves s t := by
  cases hq : s.pending with
  | nil =>
    have hidle : step s = .next s := by unfold step; rw [hq]
    obtain rfl : s = t := Host.Outcome.next.inj (hidle.symm.trans h)
    exact Moves.refl s
  | cons c rest =>
    have hrun : step s = exec c { s with pending := rest } := by unfold step; rw [hq]
    obtain ⟨u, hu, hmoves⟩ := exec_moves c { s with pending := rest }
    obtain rfl : u = t := Host.Outcome.next.inj ((hu.symm.trans hrun.symm).trans h)
    exact (AsideMove.queue rest).moves.trans hmoves

/-- A law that every move keeps is kept by every step. -/
theorem step_keeps {P : State → Prop} (hP : ∀ s t, Move s t → P s → P t) (s t : State) (hs : P s) (h : step s = .next t) : P t :=
  (step_moves h).keeps hP hs

end Sys2Proof.Machine
end

section
/-! PROOFS. What each move leaves alone, block by block, and what each move from mode to mode does. The laws rest on these and do not unfold the
operations again. -/

namespace Sys2Proof.Machine

/-! ### What may be the same after a move -/

/-- The Image Controller and the Boundary Map are the same, but for the item of the last judgement and the timer of the operation in flight. -/
structure KeepsImage (s t : State) : Prop where
  mode : t.mode = s.mode
  sub : t.sub = s.sub
  mapIndex : t.mapIndex = s.mapIndex
  sectIndex : t.sectIndex = s.sectIndex
  endorsed0 : t.endorsed0 = s.endorsed0
  endorsed1 : t.endorsed1 = s.endorsed1
  inForce : t.inForce = s.inForce
  image : t.image = s.image
  store : t.store = s.store
  bounding : t.bounding = s.bounding
  routing : t.routing = s.routing
  codes : t.codes = s.codes

/-- The Integrity Monitor is the same. -/
structure KeepsIntegrity (s t : State) : Prop where
  softErrors : t.softErrors = s.softErrors
  scrubTimer : t.scrubTimer = s.scrubTimer
  scrubPass : t.scrubPass = s.scrubPass
  clockTicks : t.clockTicks = s.clockTicks
  firstCause : t.firstCause = s.firstCause
  subCause : t.subCause = s.subCause

/-- Section records, pending records and the view of the heads are the same. -/
structure KeepsSections (s t : State) : Prop where
  sects : t.sects = s.sects
  records : t.records = s.records
  view : t.view = s.view

/-- The heads and the view of them are the same. -/
structure KeepsHeads (s t : State) : Prop where
  heads : t.heads = s.heads
  view : t.view = s.view

/-! ### Moves of the link controllers -/

/-- Nothing but the link controllers has changed. -/
def OnlyLinks (s t : State) : Prop := ∃ x y z, t = { s with lc0 := x, lc1 := y, lcs := z }

theorem OnlyLinks.refl (s : State) : OnlyLinks s s := ⟨s.lc0, s.lc1, s.lcs, rfl⟩

theorem OnlyLinks.trans {s t u : State} (h : OnlyLinks s t) (k : OnlyLinks t u) : OnlyLinks s u := by
  obtain ⟨_, _, _, rfl⟩ := h
  obtain ⟨x, y, z, rfl⟩ := k
  exact ⟨x, y, z, rfl⟩

theorem onlyLinks_setSup (s : State) (l : SupLink) (x : Sup) : OnlyLinks s (s.setSup l x) := by
  cases l <;> exact ⟨_, _, _, rfl⟩

theorem onlyLinks_setLine (s : State) (l : Link) (x : Line) : OnlyLinks s (s.setLine l x) := by
  cases l with
  | sup l => exact onlyLinks_setSup s l _
  | svl => exact ⟨_, _, _, rfl⟩

theorem onlyLinks_settleRxRate (s : State) (l : Link) : OnlyLinks s (s.settleRxRate l) := by
  unfold State.settleRxRate
  split
  · exact OnlyLinks.refl s
  · split
    · exact onlyLinks_setSup s _ _
    · exact OnlyLinks.refl s

theorem onlyLinks_settleTxRate (s : State) (l : Link) : OnlyLinks s (s.settleTxRate l) := by
  unfold State.settleTxRate
  split
  · exact OnlyLinks.refl s
  · split
    · exact onlyLinks_setSup s _ _
    · exact OnlyLinks.refl s

theorem onlyLinks_reject (s : State) (l : Link) : OnlyLinks s (s.reject l) := by
  cases l with
  | sup l => exact (onlyLinks_setLine s (.sup l) _).trans (onlyLinks_setSup _ l _)
  | svl => exact onlyLinks_setLine s .svl _

theorem onlyLinks_judgeTelegram (s : State) (l : Link) (bytes : List Byte) : OnlyLinks s (s.judgeTelegram l bytes) := by
  unfold State.judgeTelegram
  split
  · exact onlyLinks_reject s l
  · cases l with
    | sup l =>
      simp only [State.acceptSup]
      split
      · exact onlyLinks_setLine s _ _
      · split
        · exact onlyLinks_setLine s (.sup l) _
        · exact onlyLinks_setSup s _ _
    | svl =>
      simp only [State.acceptSvc]
      split
      · exact onlyLinks_setLine s _ _
      · split
        · exact onlyLinks_setLine s .svl _
        · exact ⟨_, _, _, rfl⟩

theorem onlyLinks_endTelegram (s : State) (l : Link) : OnlyLinks s (s.endTelegram l) := by
  have hidle : OnlyLinks s (s.setLine l { s.line l with rx := .idle }) := onlyLinks_setLine s l _
  unfold State.endTelegram
  simp only
  split
  · exact OnlyLinks.refl s
  · exact hidle.trans (onlyLinks_judgeTelegram _ l _)
  · exact hidle.trans (onlyLinks_reject _ l)

theorem LinkMove.onlyLinks {s t : State} (h : LinkMove s t) : OnlyLinks s t := by
  cases h with
  | asks a => exact ⟨_, _, _, rfl⟩
  | unhandSup l => exact onlyLinks_setSup s l _
  | unhandSvc => exact ⟨_, _, _, rfl⟩
  | respond l | overrun l | endTransmit l | endGap l => exact onlyLinks_setLine s l _
  | handOff e on => rw [handOff_eq]; exact ⟨_, _, _, rfl⟩
  | ackNotices l | takeMask l | takePulseEnd l => exact onlyLinks_setSup s l _
  | character l c => exact (onlyLinks_settleRxRate s l).trans (onlyLinks_setLine _ l _)
  | telegramEnd l => exact onlyLinks_endTelegram s l
  | startResponse l =>
    unfold State.startResponse
    split
    · exact (onlyLinks_settleTxRate s l).trans (onlyLinks_setLine _ l _)
    · exact OnlyLinks.refl s
  | startStatus l =>
    unfold State.startStatus
    split
    · exact (onlyLinks_settleTxRate s _).trans (onlyLinks_setSup _ l _)
    · exact OnlyLinks.refl s
  | startEvents l =>
    unfold State.startEvents
    split
    · exact (onlyLinks_settleTxRate s _).trans (onlyLinks_setSup _ l _)
    · exact OnlyLinks.refl s
  | takeReport l =>
    unfold State.takeReport
    split
    · exact onlyLinks_setSup s l _
    · exact OnlyLinks.refl s
  | settleRxRate l => exact onlyLinks_settleRxRate s l
  | settleTxRate l => exact onlyLinks_settleTxRate s l
  | takeAsked l n =>
    unfold State.takeAsked
    split
    · exact onlyLinks_setSup s l _
    · exact OnlyLinks.refl s

/-- Every block but the links and the timers that no law speaks of is the same. -/
structure KeepsBlocks (s t : State) : Prop where
  image : KeepsImage s t
  integrity : KeepsIntegrity s t
  sections : KeepsSections s t
  heads : KeepsHeads s t

theorem LinkMove.keeps {s t : State} (h : LinkMove s t) : KeepsBlocks s t := by
  obtain ⟨x, y, z, rfl⟩ := h.onlyLinks
  exact ⟨by constructor <;> rfl, by constructor <;> rfl, by constructor <;> rfl, by constructor <;> rfl⟩

theorem AsideMove.keeps {s t : State} (h : AsideMove s t) : KeepsBlocks s t := by
  have hperiod : ∃ a b, s.takePeriod = { s with periodTimer := a, periodCounter := b } := by
    unfold State.takePeriod
    split
    · exact ⟨_, _, rfl⟩
    · exact ⟨s.periodTimer, s.periodCounter, rfl⟩
  cases h with
  | queue rest => exact ⟨by constructor <;> rfl, by constructor <;> rfl, by constructor <;> rfl, by constructor <;> rfl⟩
  | key b => exact ⟨by constructor <;> rfl, by constructor <;> rfl, by constructor <;> rfl, by constructor <;> rfl⟩
  | period =>
    obtain ⟨a, b, hp⟩ := hperiod
    rw [hp]
    exact ⟨by constructor <;> rfl, by constructor <;> rfl, by constructor <;> rfl, by constructor <;> rfl⟩

/-! ### Moves of the heads and of the sections -/

theorem HeadMove.frame {s t : State} (h : HeadMove s t) : ∃ v b a, t = State.asks { s with heads := v, drainDue := b } a := by
  have hon : ∀ {d u}, OnHead d s u → ∃ v b a, u = State.asks { s with heads := v, drainDue := b } a := by
    rintro d _ ⟨g, a, rfl⟩
    exact ⟨_, s.drainDue, a, rfl⟩
  cases h with
  | faultInput d => exact hon (takeFaultInput_onHead s d).1
  | glitch d => exact hon (takeGlitch_onHead s d).1
  | change d => exact hon (takeChange_onHead s d).1
  | recovery d since => exact hon (takeRecovery_onHead s d since).1
  | axleTaken d e rest => exact hon (OnHead.set d s _)
  | drain =>
    unfold State.drainBuckets
    split
    · exact ⟨_, false, fun _ => [], by rw [asks_nil]; rfl⟩
    · exact ⟨s.heads, s.drainDue, fun _ => [], by rw [asks_nil]⟩

theorem HeadMove.keeps {s t : State} (h : HeadMove s t) : KeepsImage s t ∧ KeepsIntegrity s t ∧ KeepsSections s t := by
  obtain ⟨v, b, a, rfl⟩ := h.frame
  exact ⟨by constructor <;> rfl, by constructor <;> rfl, by constructor <;> rfl⟩

theorem takeSettle_frame (s : State) (k : SectNo) : ∃ v w a, s.takeSettle k = State.asks { s with sects := v, records := w } a := by
  by_cases hdue : s.settleDue k = true
  · obtain ⟨w, a, hchange, _⟩ :=
      changeSects_frame s fun j x => if j = k then { x with state := .clear, count := 0, settle := none } else x
    unfold State.takeSettle
    rw [if_pos hdue, hchange]
    exact ⟨_, w, a, rfl⟩
  · exact ⟨s.sects, s.records, fun _ => [], by rw [takeSettle_of_not_due s k hdue, asks_nil]⟩

theorem SectMove.frame {s t : State} (h : SectMove s t) : ∃ v w a, t = State.asks { s with sects := v, records := w } a := by
  cases h with
  | term d dir t => exact applyTerm_frame d dir s t
  | settle k => exact takeSettle_frame s k
  | dropRecord k => rw [dropRecord_eq]; exact ⟨s.sects, _, _, rfl⟩
  | clearRecord k => exact ⟨s.sects, _, fun _ => [], by rw [asks_nil]; rfl⟩
  | openRecord k => exact ⟨s.sects, _, fun _ => [], by rw [asks_nil]; rfl⟩
  | reset kind k => rw [performReset_eq]; exact ⟨_, s.records, _, rfl⟩

theorem SectMove.keeps {s t : State} (h : SectMove s t) : KeepsImage s t ∧ KeepsIntegrity s t ∧ KeepsHeads s t := by
  obtain ⟨v, w, a, rfl⟩ := h.frame
  exact ⟨by constructor <;> rfl, by constructor <;> rfl, by constructor <;> rfl⟩

/-- What a class change taken into the view makes of a section record (R71 to R73). -/
def State.classed (s : State) (d : DP) (c : HeadClass) (k : SectNo) (x : Sect) : Sect :=
  match c with
  | .notFree => if s.bounds d k then x.leaveFree else x
  | .free => if s.bounds d k then x.becomeFree (s.viewFree k) else x
  | .fault => if s.used k && s.bounds d k then x.raise .headFault (some d) else x

/-- A class change goes into the view and changes the sections that the head bounds (R62). -/
theorem applyClass_eq (s : State) (d : DP) (c : HeadClass) :
    s.applyClass d c = State.changeSects { s with view := s.view.set d c } (State.classed { s with view := s.view.set d c } d c) := by
  cases c <;> rfl

theorem classTaken_frame (s : State) (d : DP) (c : HeadClass) (h : Head) :
    ∃ w a, (s.setHead d h).applyClass d c =
        State.asks { s with
          heads := s.heads.set d h
          view := s.view.set d c
          sects := tabulate fun k => State.classed { s with view := s.view.set d c } d c k s.sects[k]
          records := w } a ∧
      ∀ k : SectNo, w[k] =
        if s.used k = true ∧ (State.classed { s with view := s.view.set d c } d c k s.sects[k]).state ≠ s.sects[k].state
        then none else s.records[k] := by
  rw [applyClass_eq]
  obtain ⟨w, a, hchange, hrecords⟩ := changeSects_frame { s.setHead d h with view := s.view.set d c }
    (State.classed { s with view := s.view.set d c } d c)
  refine ⟨w, a, ?_, hrecords⟩
  exact hchange

theorem classTaken_keeps (s : State) (d : DP) (c : HeadClass) (h : Head) :
    KeepsImage s ((s.setHead d h).applyClass d c) ∧ KeepsIntegrity s ((s.setHead d h).applyClass d c) := by
  obtain ⟨w, a, he, _⟩ := classTaken_frame s d c h
  rw [he]
  exact ⟨by constructor <;> rfl, by constructor <;> rfl⟩

/-! ### Moves of the Integrity Monitor, and samples and ticks -/

theorem IntegrityMove.keeps {s t : State} (h : IntegrityMove s t) : KeepsImage s t ∧ KeepsSections s t ∧ KeepsHeads s t := by
  cases h with
  | startScrub =>
    unfold State.startScrub
    split <;> exact ⟨by constructor <;> rfl, by constructor <;> rfl, by constructor <;> rfl⟩
  | endPass | clearErrors | softError | endWindow | subsequent =>
    exact ⟨by constructor <;> rfl, by constructor <;> rfl, by constructor <;> rfl⟩

theorem sample_keeps (s : State) (inputs : Vector Sample 32) :
    KeepsImage s (s.sampleAll inputs) ∧ KeepsIntegrity s (s.sampleAll inputs) ∧ KeepsSections s (s.sampleAll inputs) :=
  ⟨by constructor <;> rfl, by constructor <;> rfl, by constructor <;> rfl⟩

theorem tick_keeps (s : State) : KeepsImage s s.tick ∧ KeepsHeads s s.tick := ⟨by constructor <;> rfl, by constructor <;> rfl⟩

/-! ### Moves of a load -/

/-- What a load move does to the image and the indices, and what it leaves alone (R152 to R154). -/
theorem LoadMove.frame {s t : State} (h : LoadMove s t) :
    ∃ m b i j x n, t = { s with mode := m, sub := b, image := i, mapIndex := j, sectIndex := x, opTimer := n } := by
  cases h with
  | index table index =>
    unfold State.setIndex
    split
    · exact ⟨_, _, _, _, _, _, rfl⟩
    · split <;> exact ⟨_, _, _, _, _, _, rfl⟩
  | map n terms =>
    unfold State.writeMap
    split
    · split <;> exact ⟨_, _, _, _, _, _, rfl⟩
    · exact ⟨_, _, _, _, _, _, rfl⟩
    · exact ⟨_, _, _, _, _, _, rfl⟩
  | sect a b c d =>
    unfold State.writeSect
    split <;> exact ⟨_, _, _, _, _, _, rfl⟩
  | globals g p q => exact ⟨_, _, _, _, _, _, rfl⟩
  | endLoad => exact ⟨_, _, _, _, _, _, rfl⟩

theorem LoadMove.keeps {s t : State} (h : LoadMove s t) : KeepsIntegrity s t ∧ KeepsSections s t ∧ KeepsHeads s t := by
  obtain ⟨m, b, i, j, x, n, rfl⟩ := h.frame
  exact ⟨by constructor <;> rfl, by constructor <;> rfl, by constructor <;> rfl⟩

/-! ### Moves from mode to mode -/

/-- The start-up read completes with a good image, with a bad one, or is not due (R147). -/
theorem completeStart_cases (s : State) :
    s.completeStart = s ∨
    (s.mode = .starting ∧ ∃ x, s.store = some x ∧ x.image.signature = x.signature ∧
      s.completeStart = s.enterImage x.image x.signature) ∨
    (s.mode = .starting ∧
      s.completeStart = { s with mode := .unconfigured, image := Image.default, inForce := none, opTimer := 0 }) := by
  unfold State.completeStart
  split
  case isTrue hdue =>
    simp only
    split
    · exact .inr (.inr ⟨hdue.1, rfl⟩)
    case h_2 x hx =>
      split
      case isTrue hsign => exact .inr (.inl ⟨hdue.1, x, hx, hsign, rfl⟩)
      case isFalse => exact .inr (.inr ⟨hdue.1, rfl⟩)
  case isFalse => exact .inl rfl

/-- Clearing completes or is not due (R151). -/
theorem completeClearing_cases (s : State) :
    s.completeClearing = s ∨
    (s.mode = .loading ∧ s.sub = .clearing ∧
      s.completeClearing = { s with sub := .filling, mapIndex := 0, sectIndex := 0, image := Image.default, opTimer := 0 }) := by
  unfold State.completeClearing
  split
  case isTrue hdue => exact .inr ⟨hdue.1, hdue.2.1, rfl⟩
  case isFalse => exact .inl rfl

/-- Verifying completes with a legal image, with an illegal one, or is not due (R154). -/
theorem completeVerify_cases (s : State) :
    s.completeVerify = s ∨
    (s.mode = .verifying ∧ s.image.firstOffence = none ∧
      s.completeVerify = { s with store := some ⟨s.image, s.image.signature⟩ }.enterImage s.image s.image.signature) ∨
    (s.mode = .verifying ∧ ∃ o,
      s.completeVerify = { s with mode := .unconfigured, offending := some o, inForce := none, opTimer := 0 }) := by
  unfold State.completeVerify
  split
  case isTrue hdue =>
    split
    case h_1 o _ => exact .inr (.inr ⟨hdue.1, o, rfl⟩)
    case h_2 hlegal => exact .inr (.inl ⟨hdue.1, hlegal, rfl⟩)
  case isFalse => exact .inl rfl

/-- A load is abandoned in LOADING alone (R149). -/
theorem abandonLoad_cases (s : State) :
    (s.mode ≠ .loading ∧ s.abandonLoad = s) ∨
    (s.mode = .loading ∧ s.abandonLoad = { s with mode := .unconfigured, sub := .none, opTimer := 0 }) := by
  unfold State.abandonLoad
  split
  case isTrue hmode => exact .inr ⟨hmode, rfl⟩
  case isFalse hmode => exact .inl ⟨hmode, rfl⟩

/-- An endorsement changes nothing, sets the link's endorsement, or enters COUNTING as well (R157). -/
theorem endorse_cases (l : SupLink) (g : Signature) (s : State) :
    (State.endorse l g s).1 = s ∨
    (s.mode = .awaitEndorse ∧ s.inForce = some g ∧ s.endorsed l.other = false ∧ (State.endorse l g s).1 = s.setEndorsed l true) ∨
    (s.mode = .awaitEndorse ∧ s.inForce = some g ∧ s.endorsed l.other = true ∧
      (State.endorse l g s).1 = (s.setEndorsed l true).enterCounting) := by
  unfold State.endorse
  split
  case h_1 hmode =>
    split
    case isTrue hforce =>
      cases ho : s.endorsed l.other with
      | false => exact .inr (.inl ⟨hmode, hforce, rfl, by simp [ho]⟩)
      | true => exact .inr (.inr ⟨hmode, hforce, rfl, by simp [ho]⟩)
    case isFalse => exact .inl rfl
  all_goals exact .inl rfl

/-- A report timer as an image leaves force (R172). -/
def Sup.reportAfter (x : Sup) (restarts : Bool) : Sup := { x with reportTimer := if restarts then 0 else x.reportTimer }

/-- What the image's leaving force does (R34, R142, R143, R172). -/
theorem leaveForce_eq (s : State) :
    s.leaveForce = { s with
      lc0 := s.lc0.reportAfter s.inForce.isSome
      lc1 := s.lc1.reportAfter s.inForce.isSome
      inForce := none
      endorsed0 := false
      endorsed1 := false
      bounding := Vector.replicate 24 []
      routing := Vector.replicate 32 LinkSet.empty
      codes := Vector.replicate 32 none } := by
  unfold State.leaveForce State.restartReports
  cases s.inForce.isSome <;> rfl

/-- What LOAD_BEGIN does to the evaluator (R150). -/
theorem beginLoad_eq (s : State) :
    (State.beginLoad s).1 = { s with
      mode := .loading, sub := .clearing, mapIndex := 0, sectIndex := 0, offending := none, endorsed0 := false, endorsed1 := false
      image := Image.default, inForce := none, opTimer := 0
      heads := if s.mode.running then tabulate fun d => s.heads[d].toUnknown heldQual else s.heads
      bounding := Vector.replicate 24 [], routing := Vector.replicate 32 LinkSet.empty, codes := Vector.replicate 32 none
      sects := Vector.replicate 24 Sect.reset, view := Vector.replicate 32 .notFree, periodCounter := 0#16, periodTimer := 0
      softErrors := 0, scrubTimer := none, scrubPass := false, firstCause := none, subCause := none
      lc0 := (s.lc0.reportAfter s.inForce.isSome).emptyRing
      lc1 := (s.lc1.reportAfter s.inForce.isSome).emptyRing } := by
  unfold State.beginLoad
  simp only [leaveForce_eq]
  cases s.mode.running <;> rfl

/-- What RESTART does to the evaluator (R156). -/
theorem restart_eq (s : State) :
    (State.restart s).1 = { s with
      mode := .starting, sub := .none, mapIndex := 0, sectIndex := 0, offending := none, endorsed0 := false, endorsed1 := false
      image := Image.default, inForce := none, opTimer := 0
      heads := tabulate fun d => { s.heads[d].toUnknown heldQual with lastCause := .none }
      bounding := Vector.replicate 24 [], routing := Vector.replicate 32 LinkSet.empty, codes := Vector.replicate 32 none
      sects := Vector.replicate 24 Sect.reset, view := Vector.replicate 32 .notFree, periodCounter := 0#16, periodTimer := 0
      records := Vector.replicate 24 none
      softErrors := 0, scrubTimer := none, scrubPass := false, clockTicks := 0, firstCause := none, subCause := none
      lc0 := (s.lc0.reportAfter s.inForce.isSome).restart
      lc1 := (s.lc1.reportAfter s.inForce.isSome).restart } := by
  unfold State.restart
  simp only [leaveForce_eq]
  rfl

/-- The way out of COUNTING (R76, R117, R128, R129). -/
theorem stopCounting_eq (s : State) :
    ∃ a, s.stopCounting = State.asks { s with
      mode := .awaitEndorse, scrubTimer := none, scrubPass := false
      sects := tabulate fun k => if s.used k then s.sects[k].raise .notCounting none else s.sects[k]
      records := noRecords } a := by
  obtain ⟨w, a, hraise, hrecords⟩ := raiseOn_frame s.dropRecords .notCounting none fun _ => true
  have hnone : w = noRecords := by
    apply Vector.ext
    intro j hj
    refine (hrecords ⟨j, hj⟩).trans ?_
    have hdropped : s.dropRecords.records[(⟨j, hj⟩ : SectNo)] = none := by
      rw [dropRecords_eq]; exact noRecords_get _
    rw [hdropped, ite_self]
    exact (noRecords_get ⟨j, hj⟩).symm
  unfold State.stopCounting
  rw [hraise, hnone, dropRecords_eq]
  refine ⟨fun l => ((List.finRange 24).flatMap fun k => lapse s.records[k] l) ++ a l, ?_⟩
  rw [← asks_asks]
  simp only [Bool.and_true]
  rfl

/-- What a power-on leaves of the state before it. -/
theorem powerOn_eq (s : State) :
    s.powerOn = { State.reset with store := s.storeAfterPowerLoss, free := s.free + 1, pending := s.pending } := rfl

/-- A power loss leaves the store as it was, or the image being verified where it is legal (R154; log 12). -/
theorem storeAfterPowerLoss_cases (s : State) :
    s.storeAfterPowerLoss = s.store ∨
    (s.mode = .verifying ∧ s.image.firstOffence = none ∧ s.storeAfterPowerLoss = some ⟨s.image, s.image.signature⟩) := by
  unfold State.storeAfterPowerLoss
  split
  case isTrue hdue =>
    split
    · exact .inr ⟨hdue.1, hdue.2, rfl⟩
    · exact .inl rfl
  case isFalse => exact .inl rfl

end Sys2Proof.Machine
end

section
/-! PROOFS. The law of modes, endorsements and load indices is kept by every step (R142, R157). -/

namespace Sys2Proof.Machine

/-- The law reads the Image Controller alone. -/
theorem ModeLaw.of_keeps {s t : State} (k : KeepsImage s t) (h : ModeLaw s) : ModeLaw t where
  force := by rw [k.inForce, k.mode]; exact h.force
  counting := by rw [k.mode, k.endorsed0, k.endorsed1]; exact h.counting
  await := by rw [k.mode, k.endorsed0, k.endorsed1]; exact h.await
  endorsed := by rw [k.endorsed0, k.endorsed1, k.inForce]; exact h.endorsed
  sub := by rw [k.sub, k.mode]; exact h.sub
  mapIndex := by rw [k.mapIndex]; exact h.mapIndex
  sectIndex := by rw [k.sectIndex]; exact h.sectIndex

/-- With no image in force there is no endorsement. -/
theorem ModeLaw.unendorsed {s : State} (h : ModeLaw s) (hheld : s.mode.running = false) :
    s.endorsed0 = false ∧ s.endorsed1 = false := by
  have hnone : ¬ (s.endorsed0 || s.endorsed1) = true := fun he => by
    have := (h.endorsed he).symm.trans (h.force.trans hheld)
    cases this
  simpa using hnone

theorem ModeLaw.inForce_none {s : State} (h : ModeLaw s) (hheld : s.mode.running = false) : s.inForce = none :=
  Option.not_isSome_iff_eq_none.mp (by rw [h.force, hheld]; decide)

/-- An operation that leaves held modes for held modes, with no image in force, needs but the sub-state and the indices. -/
theorem ModeLaw.held {t : State} (hmode : t.mode.running = false) (hforce : t.inForce = none) (h0 : t.endorsed0 = false)
    (h1 : t.endorsed1 = false) (hsub : t.sub = .none ↔ t.mode ≠ .loading) (hmap : t.mapIndex ≤ 32) (hsect : t.sectIndex ≤ 24) :
    ModeLaw t where
  force := by rw [hforce, hmode]; rfl
  counting := fun hc => by rw [hc] at hmode; cases hmode
  await := fun hc => by rw [hc] at hmode; cases hmode
  endorsed := by rw [h0, h1]; intro he; cases he
  sub := hsub
  mapIndex := hmap
  sectIndex := hsect

/-- An operation that ends in a running mode needs what the law says of endorsements there. -/
theorem ModeLaw.run {t : State} (hmode : t.mode.running = true) (hforce : t.inForce.isSome = true)
    (hcounting : t.mode = .counting → t.endorsed0 = true ∧ t.endorsed1 = true)
    (hawait : t.mode = .awaitEndorse → (t.endorsed0 && t.endorsed1) = false) (hsub : t.sub = .none) (hmap : t.mapIndex ≤ 32)
    (hsect : t.sectIndex ≤ 24) : ModeLaw t where
  force := hforce.trans hmode.symm
  counting := hcounting
  await := hawait
  endorsed := fun _ => hforce
  sub := ⟨fun _ hc => (by rw [hc] at hmode; cases hmode), fun _ => hsub⟩
  mapIndex := hmap
  sectIndex := hsect

theorem dpOf_some {n : Nat} {d : DP} (h : dpOf n = some d) : d.val = n := by
  unfold dpOf at h
  split at h
  · exact congrArg Fin.val (Option.some.inj h.symm)
  · cases h

theorem sectOf_some {n : Nat} {k : SectNo} (h : sectOf n = some k) : k.val = n := by
  unfold sectOf at h
  split at h
  · exact congrArg Fin.val (Option.some.inj h.symm)
  · cases h

theorem ModeLaw.load {s t : State} (hmode : s.mode = .loading) (m : LoadMove s t) (h : ModeLaw s) :
    ModeLaw t := by
  have hheld : s.mode.running = false := by rw [hmode]; rfl
  obtain ⟨h0, h1⟩ := h.unendorsed hheld
  have hforce := h.inForce_none hheld
  cases m with
  | index table index =>
    unfold State.setIndex
    split
    case isTrue hi => exact ModeLaw.held hheld hforce h0 h1 h.sub (hi.2.trans (by decide)) h.sectIndex
    case isFalse =>
      split
      case isTrue hi => exact ModeLaw.held hheld hforce h0 h1 h.sub h.mapIndex (hi.2.trans (by decide))
      case isFalse => exact h
  | map n terms =>
    unfold State.writeMap
    split
    case h_1 d ts hd _ =>
      split
      case isTrue hi =>
        have hnext : s.mapIndex + 1 ≤ 32 := by rw [← hi.1, ← dpOf_some hd]; exact d.isLt
        exact ModeLaw.held hheld hforce h0 h1 h.sub hnext h.sectIndex
      case isFalse => exact h
    all_goals exact h
  | sect a b c d =>
    unfold State.writeSect
    split
    case h_1 k _ _ hk _ _ =>
      have hnext : s.sectIndex + 1 ≤ 24 := by rw [← sectOf_some hk]; exact k.isLt
      exact ModeLaw.held hheld hforce h0 h1 h.sub h.mapIndex hnext
    case h_2 => exact h
  | globals g p q => exact ModeLaw.held hheld hforce h0 h1 h.sub h.mapIndex h.sectIndex
  | endLoad => exact ModeLaw.held rfl hforce h0 h1 (by simp [State.endLoad]) h.mapIndex h.sectIndex

/-- Image entry gives the law, whatever stood before it but the indices. -/
theorem ModeLaw.enterImage {s : State} (i : Image) (g : Signature) (hmap : s.mapIndex ≤ 32) (hsect : s.sectIndex ≤ 24) :
    ModeLaw (s.enterImage i g) :=
  ModeLaw.run rfl rfl (fun hc => by cases hc) (fun _ => rfl) rfl hmap hsect

/-- An image is in force in a running mode, and there is no load. -/
theorem ModeLaw.running {s : State} (h : ModeLaw s) (hmode : s.mode.running = true) : s.inForce.isSome = true ∧ s.sub = .none :=
  ⟨h.force.trans hmode, h.sub.mpr fun hc => by rw [hc] at hmode; cases hmode⟩

theorem ModeLaw.enterHalted {s : State} (c : HaltCause) (hmode : s.mode = .counting) (h : ModeLaw s) : ModeLaw (s.enterHalted c) := by
  obtain ⟨hforce, hsub⟩ := h.running (by rw [hmode]; rfl)
  rw [enterHalted_eq]
  exact ModeLaw.run rfl hforce (fun hc => by cases hc) (fun hc => by cases hc) hsub h.mapIndex h.sectIndex

theorem ModeLaw.setEndorsed {s : State} (l : SupLink) (h : ModeLaw s) (hmode : s.mode = .awaitEndorse)
    (hother : s.endorsed l.other = false) : ModeLaw (s.setEndorsed l true) := by
  have hrun : s.mode.running = true := by rw [hmode]; rfl
  have hcounting : s.mode ≠ .counting := by rw [hmode]; decide
  obtain ⟨hforce, hsub⟩ := h.running hrun
  cases l with
  | sl0 => exact ModeLaw.run hrun hforce (fun hc => absurd hc hcounting) (fun _ => hother) hsub h.mapIndex h.sectIndex
  | sl1 =>
    exact ModeLaw.run hrun hforce (fun hc => absurd hc hcounting) (fun _ => (Bool.and_true _).trans hother) hsub h.mapIndex
      h.sectIndex

theorem ModeLaw.enterCounting {s : State} (l : SupLink) (h : ModeLaw s) (hmode : s.mode = .awaitEndorse)
    (hother : s.endorsed l.other = true) : ModeLaw (s.setEndorsed l true).enterCounting := by
  obtain ⟨hforce, hsub⟩ := h.running (by rw [hmode]; rfl)
  cases l with
  | sl0 => exact ModeLaw.run rfl hforce (fun _ => ⟨rfl, hother⟩) (fun hc => by cases hc) hsub h.mapIndex h.sectIndex
  | sl1 => exact ModeLaw.run rfl hforce (fun _ => ⟨hother, rfl⟩) (fun hc => by cases hc) hsub h.mapIndex h.sectIndex

/-- An endorsement withdrawn outside COUNTING (R158). -/
theorem ModeLaw.unendorse {s : State} (l : SupLink) (h : ModeLaw s) (hmode : s.mode ≠ .counting) : ModeLaw (s.setEndorsed l false) := by
  cases l with
  | sl0 =>
    refine ⟨h.force, fun hc => absurd hc hmode, fun _ => rfl, fun he => h.endorsed ?_, h.sub, h.mapIndex, h.sectIndex⟩
    rw [show s.endorsed1 = true from he, Bool.or_true]
  | sl1 =>
    refine ⟨h.force, fun hc => absurd hc hmode, fun _ => Bool.and_false _, fun he => h.endorsed ?_, h.sub, h.mapIndex, h.sectIndex⟩
    rw [show s.endorsed0 = true from (Bool.or_false _).symm.trans he, Bool.true_or]

/-- An endorsement withdrawn in COUNTING, which the mode leaves (R158). -/
theorem ModeLaw.stopCounting {s : State} (l : SupLink) (h : ModeLaw s) (hmode : s.mode = .counting) :
    ModeLaw (s.setEndorsed l false).stopCounting := by
  obtain ⟨hforce, hsub⟩ := h.running (by rw [hmode]; rfl)
  obtain ⟨a, hstop⟩ := stopCounting_eq (s.setEndorsed l false)
  rw [hstop]
  cases l with
  | sl0 => exact ModeLaw.run rfl hforce (fun hc => by cases hc) (fun _ => rfl) hsub h.mapIndex h.sectIndex
  | sl1 => exact ModeLaw.run rfl hforce (fun hc => by cases hc) (fun _ => Bool.and_false _) hsub h.mapIndex h.sectIndex

theorem ModeLaw.mode {s t : State} (m : ModeMove s t) (h : ModeLaw s) : ModeLaw t := by
  cases m with
  | halt c hmode => exact h.enterHalted c hmode
  | softHalt hmode =>
    exact ModeLaw.enterHalted (s := { s with softErrors := s.softErrors + 1 }) .softLimit hmode
      (h.of_keeps (by constructor <;> rfl))
  | start =>
    obtain he | ⟨_, x, _, _, he⟩ | ⟨hmode, he⟩ := completeStart_cases s <;> rw [he]
    · exact h
    · exact ModeLaw.enterImage _ _ h.mapIndex h.sectIndex
    · obtain ⟨h0, h1⟩ := h.unendorsed (by rw [hmode]; rfl)
      exact ModeLaw.held rfl rfl h0 h1 ⟨fun _ hc => (by cases hc), fun _ => h.sub.mpr (by rw [hmode]; decide)⟩ h.mapIndex h.sectIndex
  | clearing =>
    obtain he | ⟨hmode, _, he⟩ := completeClearing_cases s <;> rw [he]
    · exact h
    · have hheld : s.mode.running = false := by rw [hmode]; rfl
      obtain ⟨h0, h1⟩ := h.unendorsed hheld
      exact ModeLaw.held hheld (h.inForce_none hheld) h0 h1 (by simp [hmode]) (Nat.zero_le _) (Nat.zero_le _)
  | verify =>
    obtain he | ⟨_, _, he⟩ | ⟨hmode, o, he⟩ := completeVerify_cases s <;> rw [he]
    · exact h
    · exact ModeLaw.enterImage _ _ h.mapIndex h.sectIndex
    · obtain ⟨h0, h1⟩ := h.unendorsed (by rw [hmode]; rfl)
      exact ModeLaw.held rfl rfl h0 h1 ⟨fun _ hc => (by cases hc), fun _ => h.sub.mpr (by rw [hmode]; decide)⟩ h.mapIndex h.sectIndex
  | abandon =>
    obtain ⟨_, he⟩ | ⟨hmode, he⟩ := abandonLoad_cases s <;> rw [he]
    · exact h
    · have hheld : s.mode.running = false := by rw [hmode]; rfl
      obtain ⟨h0, h1⟩ := h.unendorsed hheld
      exact ModeLaw.held rfl (h.inForce_none hheld) h0 h1 (by simp) h.mapIndex h.sectIndex
  | beginLoad => rw [beginLoad_eq]; exact ModeLaw.held rfl rfl rfl rfl (by simp) (Nat.zero_le _) (Nat.zero_le _)
  | restart => rw [restart_eq]; exact ModeLaw.held rfl rfl rfl rfl (by simp) (Nat.zero_le _) (Nat.zero_le _)
  | endorse l g =>
    obtain he | ⟨hmode, _, hother, he⟩ | ⟨hmode, _, hother, he⟩ := endorse_cases l g s <;> rw [he]
    · exact h
    · exact h.setEndorsed l hmode hother
    · exact h.enterCounting l hmode hother
  | unendorse l hmode => exact h.unendorse l hmode
  | withdraw l hmode => exact h.stopCounting l hmode
  | powerOn => exact ModeLaw.held rfl rfl rfl rfl (by simp [State.powerOn, State.reset]) (Nat.zero_le _) (Nat.zero_le _)

theorem ModeLaw.move (s t : State) (m : Move s t) (h : ModeLaw s) : ModeLaw t := by
  cases m with
  | link m => exact h.of_keeps m.keeps.image
  | aside m => exact h.of_keeps m.keeps.image
  | head m => exact h.of_keeps m.keeps.1
  | sect m => exact h.of_keeps m.keeps.1
  | classTaken d c rest => exact h.of_keeps (classTaken_keeps s d c _).1
  | integrity m => exact h.of_keeps m.keeps.1
  | load hmode _ m => exact h.load hmode m
  | mode m => exact h.mode m
  | sample inputs => exact h.of_keeps (sample_keeps s inputs).1
  | tick => exact h.of_keeps (tick_keeps s).1

/-- Settles O56: every move keeps the law, since only the moves from mode to mode and those of a load touch what it reads. -/
theorem modeLawKept : Obligations.ModeLawKept := step_keeps ModeLaw.move

end Sys2Proof.Machine
end

section
/-! PROOFS. The law of the image is kept by every step: in range, legal and named by its own signature while in force (R30, R34, R142 to R145). -/

namespace Sys2Proof.Machine

/-! ### Values brought within their ranges -/

theorem clampTo_clampTo (lo hi n : Nat) : clampTo lo hi (clampTo lo hi n) = clampTo lo hi n := by
  unfold clampTo; omega

theorem globals_clamp_clamp (g : Globals) : g.clamp.clamp = g.clamp := by
  simp only [Globals.clamp, clampTo_clampTo]

theorem linkParams_clamp_clamp (p : LinkParams) : p.clamp.clamp = p.clamp := by
  simp only [LinkParams.clamp, clampTo_clampTo]

theorem sectEntry_clamp_clamp (e : SectEntry) : e.clamp.clamp = e.clamp := by
  simp only [SectEntry.clamp, clampTo_clampTo]

theorem default_inRange : Image.default.InRange := by
  refine ⟨rfl, rfl, rfl, fun k => ?_, fun d => ?_⟩
  · have hk : Image.default.sects[k] = SectEntry.default := by simp [Image.default]
    rw [hk]; rfl
  · have hd : Image.default.map[d] = ⟨[]⟩ := by simp [Image.default]
    rw [hd]; decide

theorem inRange_setMap {i : Image} (h : i.InRange) (d : DP) (ts : List Term) (hts : ts.length ≤ 4) :
    Image.InRange { i with map := i.map.set d ⟨ts⟩ } := by
  obtain ⟨hg, h0, h1, hsects, hmap⟩ := h
  refine ⟨hg, h0, h1, hsects, fun e => ?_⟩
  by_cases he : e = d
  · subst he
    simpa using hts
  · have hne : (i.map.set d ⟨ts⟩)[e] = i.map[e] := Vector.getElem_set_ne _ _ fun hc => he (Fin.ext hc.symm)
    simp only [hne]
    exact hmap e

theorem inRange_setSect {i : Image} (h : i.InRange) (k : SectNo) (e : SectEntry) :
    Image.InRange { i with sects := i.sects.set k e.clamp } := by
  obtain ⟨hg, h0, h1, hsects, hmap⟩ := h
  refine ⟨hg, h0, h1, fun j => ?_, hmap⟩
  by_cases hj : j = k
  · subst hj
    simpa using sectEntry_clamp_clamp e
  · have hne : (i.sects.set k e.clamp)[j] = i.sects[j] := Vector.getElem_set_ne _ _ fun hc => hj (Fin.ext hc.symm)
    simp only [hne]
    exact hsects j

theorem inRange_setGlobals {i : Image} (h : i.InRange) (g : Globals) (p q : LinkParams) :
    Image.InRange { i with globals := g.clamp, params0 := p.clamp, params1 := q.clamp } :=
  ⟨globals_clamp_clamp g, linkParams_clamp_clamp p, linkParams_clamp_clamp q, h.2.2.2⟩

/-! ### The law -/

/-- The law reads the Image Controller and the Boundary Map, and of the mode whether it is a running one. -/
theorem ImageLaw.of_same {s t : State} (h : ImageLaw s) (hmode : t.mode.running = s.mode.running) (hforce : t.inForce = s.inForce)
    (himage : t.image = s.image) (hstore : t.store = s.store) (hbound : t.bounding = s.bounding) (hroute : t.routing = s.routing)
    (hcodes : t.codes = s.codes) : ImageLaw t where
  force := by rw [hforce, hmode]; exact h.force
  range := by rw [himage]; exact h.range
  stored := by rw [hstore]; exact h.stored
  signed := by
    intro g hg
    unfold State.derivedFrom
    rw [hbound, hroute, hcodes, himage]
    exact h.signed g (hforce.symm.trans hg)
  unsigned := by
    intro hn
    unfold State.derivedNone
    rw [hbound, hroute, hcodes]
    exact h.unsigned (hforce.symm.trans hn)

theorem ImageLaw.of_keeps {s t : State} (k : KeepsImage s t) (h : ImageLaw s) : ImageLaw t :=
  h.of_same (congrArg Mode.running k.mode) k.inForce k.image k.store k.bounding k.routing k.codes

/-- With no image in force the law asks for the working image's range and the store alone. -/
theorem ImageLaw.held {t : State} (hmode : t.mode.running = false) (hforce : t.inForce = none) (hnone : t.derivedNone)
    (hrange : t.image.InRange) (hstored : ∀ x, t.store = some x → x.image.InRange ∧ x.image.firstOffence = none) : ImageLaw t where
  force := by rw [hforce, hmode]; rfl
  range := hrange
  stored := hstored
  signed := fun g hg => by rw [hforce] at hg; cases hg
  unsigned := fun _ => hnone

theorem ImageLaw.inForce_none {s : State} (h : ImageLaw s) (hheld : s.mode.running = false) : s.inForce = none :=
  Option.not_isSome_iff_eq_none.mp (by rw [h.force, hheld]; decide)

/-- Image entry with a legal image in range that its signature names. -/
theorem ImageLaw.enterImage {s : State} (i : Image) (hrange : i.InRange) (hlegal : i.firstOffence = none)
    (hstored : ∀ x, s.store = some x → x.image.InRange ∧ x.image.firstOffence = none) :
    ImageLaw (s.enterImage i i.signature) where
  force := rfl
  range := hrange
  stored := hstored
  signed := fun _ hg => ⟨(Option.some.inj hg).symm, hlegal, rfl, rfl, rfl⟩
  unsigned := fun hn => by cases hn

theorem ImageLaw.load {s t : State} (hmode : s.mode = .loading) (m : LoadMove s t) (h : ImageLaw s) : ImageLaw t := by
  have hheld : s.mode.running = false := by rw [hmode]; rfl
  have hforce := h.inForce_none hheld
  have hnone := h.unsigned hforce
  cases m with
  | index table index =>
    unfold State.setIndex
    split
    · exact h.of_same rfl rfl rfl rfl rfl rfl rfl
    · split <;> exact h.of_same rfl rfl rfl rfl rfl rfl rfl
  | map n terms =>
    unfold State.writeMap
    split
    case h_1 d ts _ _ =>
      split
      case isTrue hi => exact ImageLaw.held hheld hforce hnone (inRange_setMap h.range d ts hi.2) h.stored
      case isFalse => exact h
    all_goals exact h
  | sect a b c d =>
    unfold State.writeSect
    split
    case h_1 k _ _ _ _ _ => exact ImageLaw.held hheld hforce hnone (inRange_setSect h.range k _) h.stored
    case h_2 => exact h
  | globals g p q => exact ImageLaw.held hheld hforce hnone (inRange_setGlobals h.range g p q) h.stored
  | endLoad => exact ImageLaw.held rfl hforce hnone h.range h.stored

theorem ImageLaw.mode {s t : State} (m : ModeMove s t) (h : ImageLaw s) : ImageLaw t := by
  cases m with
  | halt c hmode => rw [enterHalted_eq]; exact h.of_same (by rw [hmode]; rfl) rfl rfl rfl rfl rfl rfl
  | softHalt hmode => rw [enterHalted_eq]; exact h.of_same (by rw [hmode]; rfl) rfl rfl rfl rfl rfl rfl
  | start =>
    obtain he | ⟨_, x, hstore, hsign, he⟩ | ⟨hmode, he⟩ := completeStart_cases s <;> rw [he]
    · exact h
    · obtain ⟨hrange, hlegal⟩ := h.stored x hstore
      rw [← hsign]
      exact ImageLaw.enterImage x.image hrange hlegal h.stored
    · have hnone := h.unsigned (h.inForce_none (by rw [hmode]; rfl))
      exact ImageLaw.held rfl rfl hnone default_inRange h.stored
  | clearing =>
    obtain he | ⟨hmode, _, he⟩ := completeClearing_cases s <;> rw [he]
    · exact h
    · have hheld : s.mode.running = false := by rw [hmode]; rfl
      exact ImageLaw.held hheld (h.inForce_none hheld) (h.unsigned (h.inForce_none hheld)) default_inRange h.stored
  | verify =>
    obtain he | ⟨_, hlegal, he⟩ | ⟨hmode, o, he⟩ := completeVerify_cases s <;> rw [he]
    · exact h
    · refine ImageLaw.enterImage s.image h.range hlegal fun x hx => ?_
      rw [← Option.some.inj hx]
      exact ⟨h.range, hlegal⟩
    · have hnone := h.unsigned (h.inForce_none (by rw [hmode]; rfl))
      exact ImageLaw.held rfl rfl hnone h.range h.stored
  | abandon =>
    obtain ⟨_, he⟩ | ⟨hmode, he⟩ := abandonLoad_cases s <;> rw [he]
    · exact h
    · exact h.of_same (by rw [hmode]; rfl) rfl rfl rfl rfl rfl rfl
  | beginLoad => rw [beginLoad_eq]; exact ImageLaw.held rfl rfl ⟨rfl, rfl, rfl⟩ default_inRange h.stored
  | restart => rw [restart_eq]; exact ImageLaw.held rfl rfl ⟨rfl, rfl, rfl⟩ default_inRange h.stored
  | endorse l g =>
    obtain he | ⟨_, _, _, he⟩ | ⟨hmode, _, _, he⟩ := endorse_cases l g s <;> rw [he]
    · exact h
    · cases l <;> exact h.of_same rfl rfl rfl rfl rfl rfl rfl
    · cases l <;> exact h.of_same (by rw [hmode]; rfl) rfl rfl rfl rfl rfl rfl
  | unendorse l => cases l <;> exact h.of_same rfl rfl rfl rfl rfl rfl rfl
  | withdraw l hmode =>
    obtain ⟨a, he⟩ := stopCounting_eq (s.setEndorsed l false)
    rw [he]
    cases l <;> exact h.of_same (by rw [hmode]; rfl) rfl rfl rfl rfl rfl rfl
  | powerOn =>
    refine ImageLaw.held rfl rfl ⟨rfl, rfl, rfl⟩ default_inRange fun x hx => ?_
    obtain he | ⟨_, hlegal, he⟩ := storeAfterPowerLoss_cases s
    · exact h.stored x (he.symm.trans hx)
    · rw [← Option.some.inj (he.symm.trans hx)]
      exact ⟨h.range, hlegal⟩

theorem ImageLaw.move (s t : State) (m : Move s t) (h : ImageLaw s) : ImageLaw t := by
  cases m with
  | link m => exact h.of_keeps m.keeps.image
  | aside m => exact h.of_keeps m.keeps.image
  | head m => exact h.of_keeps m.keeps.1
  | sect m => exact h.of_keeps m.keeps.1
  | classTaken d c rest => exact h.of_keeps (classTaken_keeps s d c _).1
  | integrity m => exact h.of_keeps m.keeps.1
  | load hmode _ m => exact h.load hmode m
  | mode m => exact h.mode m
  | sample inputs => exact h.of_keeps (sample_keeps s inputs).1
  | tick => exact h.of_keeps (tick_keeps s).1

/-- Settles O57: every move keeps the law; the working image is written only while none is in force, and only a legal image enters force. -/
theorem imageLawKept : Obligations.ImageLawKept := step_keeps ImageLaw.move

end Sys2Proof.Machine
end

section
/-! PROOFS. The law of the Integrity Monitor is kept by every step (R126 to R129, R132, R135, R136, R141). -/

namespace Sys2Proof.Machine

theorem IntegrityLaw.of_keeps {s t : State} (i : KeepsImage s t) (k : KeepsIntegrity s t) (h : IntegrityLaw s) : IntegrityLaw t where
  limit := by rw [i.image]; exact h.limit
  stored := by rw [i.store]; exact h.stored
  held := by rw [i.mode, k.softErrors]; exact h.held
  below := by rw [i.mode, i.image, k.softErrors]; exact h.below
  halted := by rw [i.mode, i.image, k.softErrors]; exact h.halted
  first := by rw [i.mode, k.firstCause]; exact h.first
  subsequent := by rw [i.mode, k.subCause]; exact h.subsequent
  scrub := by rw [i.mode, k.scrubTimer]; exact h.scrub
  elapsed := by unfold State.scrubTicks; rw [i.image, k.scrubTimer]; exact h.elapsed
  pass := by rw [i.mode, k.scrubPass]; exact h.pass
  clock := by rw [k.clockTicks]; exact h.clock

/-- What the monitor holds with no cause recorded and no scrub running. -/
structure Idle (s : State) : Prop where
  firstCause : s.firstCause = none
  subCause : s.subCause = none
  scrubTimer : s.scrubTimer = none
  scrubPass : s.scrubPass = false

/-- Outside COUNTING and HALTED the monitor is idle. -/
theorem IntegrityLaw.idle {s : State} (h : IntegrityLaw s) (hc : s.mode ≠ .counting) (hh : s.mode ≠ .halted) : Idle s where
  firstCause := Option.not_isSome_iff_eq_none.mp (by rw [h.first]; simp [hh])
  subCause := Option.not_isSome_iff_eq_none.mp fun hs => hh (h.subsequent hs)
  scrubTimer := Option.not_isSome_iff_eq_none.mp (by rw [h.scrub]; simp [hc, hh])
  scrubPass := Bool.eq_false_iff.mpr fun hs => (h.pass hs).elim hc hh

/-- An idle monitor outside COUNTING and HALTED keeps the law if its soft error count does. -/
theorem IntegrityLaw.of_idle {t : State} (i : Idle t) (hc : t.mode ≠ .counting) (hh : t.mode ≠ .halted)
    (hlimit : softRange t.image) (hstored : ∀ x, t.store = some x → softRange x.image)
    (hheld : t.mode.running = false → t.softErrors = 0) (hbelow : t.softErrors < t.image.globals.softLimit)
    (hclock : t.clockTicks ≤ 1021) : IntegrityLaw t where
  limit := hlimit
  stored := hstored
  held := hheld
  below := fun _ => hbelow
  halted := fun hm => absurd hm hh
  first := by rw [i.firstCause]; simp [hh]
  subsequent := by rw [i.subCause]; intro hs; cases hs
  scrub := by rw [i.scrubTimer]; simp [hc, hh]
  elapsed := by rw [i.scrubTimer]; intro e he; cases he
  pass := by rw [i.scrubPass]; intro hs; cases hs
  clock := hclock

theorem not_busy_of_held {m : Mode} (h : m.running = false) : m ≠ .counting ∧ m ≠ .halted := by
  constructor <;> rintro rfl <;> cases h

/-- In a held mode the soft error count is 0. -/
theorem IntegrityLaw.of_held {t : State} (i : Idle t) (hmode : t.mode.running = false) (hlimit : softRange t.image)
    (hstored : ∀ x, t.store = some x → softRange x.image) (herrors : t.softErrors = 0) (hclock : t.clockTicks ≤ 1021) :
    IntegrityLaw t := by
  obtain ⟨hc, hh⟩ := not_busy_of_held hmode
  exact IntegrityLaw.of_idle i hc hh hlimit hstored (fun _ => herrors) (by rw [herrors]; exact hlimit.1) hclock

/-- Values brought within their ranges have SOFT_LIMIT in its range (R144). -/
theorem softRange_clamp (i : Image) (g : Globals) (p q : LinkParams) :
    softRange { i with globals := g.clamp, params0 := p, params1 := q } := by
  change 1 ≤ clampTo 1 15 g.softLimit ∧ clampTo 1 15 g.softLimit ≤ 15
  unfold clampTo
  omega

theorem softRange_default : softRange Image.default := ⟨by decide, by decide⟩

theorem IntegrityLaw.load {s t : State} (hmode : s.mode = .loading) (m : LoadMove s t) (h : IntegrityLaw s) : IntegrityLaw t := by
  have hheld : s.mode.running = false := by rw [hmode]; rfl
  obtain ⟨hc, hh⟩ := not_busy_of_held hheld
  have hidle := h.idle hc hh
  have herrors := h.held hheld
  have hsame : ∀ i, softRange i → ∀ j k, IntegrityLaw { s with image := i, mapIndex := j, sectIndex := k } := fun i hi j k =>
    IntegrityLaw.of_held ⟨hidle.1, hidle.2, hidle.3, hidle.4⟩ hheld hi h.stored herrors h.clock
  cases m with
  | index table index =>
    unfold State.setIndex
    split
    · exact hsame s.image h.limit _ _
    · split
      · exact hsame s.image h.limit _ _
      · exact h
  | map n terms =>
    unfold State.writeMap
    split
    · split
      · refine hsame _ ?_ _ _
        exact h.limit
      · exact h
    all_goals exact h
  | sect a b c d =>
    unfold State.writeSect
    split
    · refine hsame _ ?_ _ _
      exact h.limit
    · exact h
  | globals g p q => exact hsame _ (softRange_clamp s.image g _ _) _ _
  | endLoad => exact IntegrityLaw.of_held ⟨hidle.1, hidle.2, hidle.3, hidle.4⟩ rfl h.limit h.stored herrors h.clock

theorem IntegrityLaw.integrity {s t : State} (m : IntegrityMove s t) (h : IntegrityLaw s) : IntegrityLaw t := by
  cases m with
  | startScrub =>
    unfold State.startScrub
    split
    case isTrue hdue =>
      have hrun : s.scrubTimer.isSome = true := by
        unfold State.scrubDue at hdue
        split at hdue
        case h_1 e he => rw [he]; rfl
        case h_2 => cases hdue
      have hmode : s.mode = .counting ∨ s.mode = .halted := by simpa using h.scrub.symm.trans hrun
      exact { h with
        scrub := hrun.symm.trans h.scrub
        elapsed := fun e he => by rw [← Option.some.inj he]; exact Nat.zero_le _
        pass := fun _ => hmode }
    case isFalse => exact h
  | endPass => exact { h with pass := fun hp => by cases hp }
  | clearErrors => exact { h with held := fun _ => rfl, below := fun _ => h.limit.1, halted := fun _ => Nat.zero_le _ }
  | softError hmode hbelow =>
    exact { h with
      held := fun hheld => absurd hmode (not_busy_of_held hheld).1
      below := fun _ => hbelow
      halted := fun _ => hbelow.le }
  | endWindow => exact { h with clock := Nat.zero_le _ }
  | subsequent c hmode => exact { h with subsequent := fun _ => hmode }

theorem IntegrityLaw.enterHalted {s : State} (c : HaltCause) (hmode : s.mode = .counting) (hlimit : softRange s.image)
    (hstored : ∀ x, s.store = some x → softRange x.image) (herrors : s.softErrors ≤ s.image.globals.softLimit)
    (hscrub : s.scrubTimer.isSome = (decide (s.mode = .counting) || decide (s.mode = .halted)))
    (helapsed : ∀ e, s.scrubTimer = some e → e ≤ s.scrubTicks) (hclock : s.clockTicks ≤ 1021) : IntegrityLaw (s.enterHalted c) := by
  rw [enterHalted_eq]
  exact {
    limit := hlimit
    stored := hstored
    held := fun hheld => by cases hheld
    below := fun hm => by rcases hm with hm | hm <;> cases hm
    halted := fun _ => herrors
    first := rfl
    subsequent := fun _ => rfl
    scrub := hscrub.trans (by rw [hmode]; rfl)
    elapsed := helapsed
    pass := fun _ => .inr rfl
    clock := hclock }

/-- Image entry from a held mode. -/
theorem IntegrityLaw.enterImage {s : State} (h : IntegrityLaw s) (hheld : s.mode.running = false) (i : Image) (g : Signature)
    (hi : softRange i) : IntegrityLaw (s.enterImage i g) := by
  obtain ⟨hc, hh⟩ := not_busy_of_held hheld
  obtain ⟨h1, h2, h3, h4⟩ := h.idle hc hh
  have herrors : (s.enterImage i g).softErrors = 0 := h.held hheld
  exact IntegrityLaw.of_idle ⟨h1, h2, h3, h4⟩ (by intro hm; cases hm) (by intro hm; cases hm) hi h.stored (fun hm => by cases hm)
    (by rw [herrors]; exact hi.1) h.clock

/-- A held mode left for another held mode with the monitor as it stands. -/
theorem IntegrityLaw.stay_held {s t : State} (h : IntegrityLaw s) (hs : s.mode.running = false) (ht : t.mode.running = false)
    (k : KeepsIntegrity s t) (hlimit : softRange t.image) (hstore : t.store = s.store) : IntegrityLaw t := by
  obtain ⟨hc, hh⟩ := not_busy_of_held hs
  obtain ⟨h1, h2, h3, h4⟩ := h.idle hc hh
  exact IntegrityLaw.of_held ⟨k.firstCause.trans h1, k.subCause.trans h2, k.scrubTimer.trans h3, k.scrubPass.trans h4⟩ ht hlimit
    (by rw [hstore]; exact h.stored) (k.softErrors.trans (h.held hs)) (by rw [k.clockTicks]; exact h.clock)

theorem IntegrityLaw.enterCounting {s : State} (l : SupLink) (h : IntegrityLaw s) (hmode : s.mode = .awaitEndorse) :
    IntegrityLaw (s.setEndorsed l true).enterCounting := by
  have hidle := h.idle (by rw [hmode]; decide) (by rw [hmode]; decide)
  have hlaw : IntegrityLaw { s with mode := .counting, scrubTimer := some 0 } := {
    limit := h.limit
    stored := h.stored
    held := fun hm => by cases hm
    below := fun _ => h.below (.inl hmode)
    halted := fun hm => by cases hm
    first := by rw [hidle.firstCause]; rfl
    subsequent := by rw [hidle.subCause]; intro hm; cases hm
    scrub := rfl
    elapsed := fun e he => by rw [← Option.some.inj he]; exact Nat.zero_le _
    pass := fun _ => .inl rfl
    clock := h.clock }
  cases l <;> exact ⟨hlaw.1, hlaw.2, hlaw.3, hlaw.4, hlaw.5, hlaw.6, hlaw.7, hlaw.8, hlaw.9, hlaw.10, hlaw.11⟩

theorem IntegrityLaw.stopCounting {s : State} (l : SupLink) (h : IntegrityLaw s) (hmode : s.mode = .counting) :
    IntegrityLaw (s.setEndorsed l false).stopCounting := by
  have hhalted : s.mode ≠ .halted := by rw [hmode]; decide
  have hfirst : s.firstCause = none := Option.not_isSome_iff_eq_none.mp (by rw [h.first]; simp [hhalted])
  have hsub : s.subCause = none := Option.not_isSome_iff_eq_none.mp fun hs => hhalted (h.subsequent hs)
  have hbelow := h.below (.inr hmode)
  obtain ⟨a, he⟩ := stopCounting_eq (s.setEndorsed l false)
  rw [he]
  cases l <;> exact IntegrityLaw.of_idle ⟨hfirst, hsub, rfl, rfl⟩ (by intro hm; cases hm) (by intro hm; cases hm) h.limit h.stored
    (fun hm => by cases hm) hbelow h.clock

theorem IntegrityLaw.mode {s t : State} (m : ModeMove s t) (h : IntegrityLaw s) : IntegrityLaw t := by
  cases m with
  | halt c hmode => exact IntegrityLaw.enterHalted c hmode h.limit h.stored (h.below (.inr hmode)).le h.scrub h.elapsed h.clock
  | softHalt hmode _ =>
    exact IntegrityLaw.enterHalted (s := { s with softErrors := s.softErrors + 1 }) .softLimit hmode h.limit h.stored
      (h.below (.inr hmode)) h.scrub h.elapsed h.clock
  | start =>
    obtain he | ⟨hmode, x, hstore, _, he⟩ | ⟨hmode, he⟩ := completeStart_cases s <;> rw [he]
    · exact h
    · exact h.enterImage (by rw [hmode]; rfl) _ _ (h.stored x hstore)
    · exact h.stay_held (by rw [hmode]; rfl) rfl (by constructor <;> rfl) softRange_default rfl
  | clearing =>
    obtain he | ⟨hmode, _, he⟩ := completeClearing_cases s <;> rw [he]
    · exact h
    · have hheld : s.mode.running = false := by rw [hmode]; rfl
      exact h.stay_held hheld hheld (by constructor <;> rfl) softRange_default rfl
  | verify =>
    obtain he | ⟨hmode, _, he⟩ | ⟨hmode, o, he⟩ := completeVerify_cases s <;> rw [he]
    · exact h
    · have hheld : s.mode.running = false := by rw [hmode]; rfl
      refine IntegrityLaw.enterImage (s := { s with store := some ⟨s.image, s.image.signature⟩ }) ?_ hheld _ _ h.limit
      exact { h with stored := fun x hx => by rw [← Option.some.inj hx]; exact h.limit }
    · exact h.stay_held (by rw [hmode]; rfl) rfl (by constructor <;> rfl) h.limit rfl
  | abandon =>
    obtain ⟨_, he⟩ | ⟨hmode, he⟩ := abandonLoad_cases s <;> rw [he]
    · exact h
    · exact h.stay_held (by rw [hmode]; rfl) rfl (by constructor <;> rfl) h.limit rfl
  | beginLoad => rw [beginLoad_eq]; exact IntegrityLaw.of_held ⟨rfl, rfl, rfl, rfl⟩ rfl softRange_default h.stored rfl h.clock
  | restart => rw [restart_eq]; exact IntegrityLaw.of_held ⟨rfl, rfl, rfl, rfl⟩ rfl softRange_default h.stored rfl (Nat.zero_le _)
  | endorse l g =>
    obtain he | ⟨_, _, _, he⟩ | ⟨hmode, _, _, he⟩ := endorse_cases l g s <;> rw [he]
    · exact h
    · cases l <;> exact { h with }
    · exact h.enterCounting l hmode
  | unendorse l => cases l <;> exact { h with }
  | withdraw l hmode => exact h.stopCounting l hmode
  | powerOn =>
    refine IntegrityLaw.of_held ⟨rfl, rfl, rfl, rfl⟩ rfl softRange_default (fun x hx => ?_) rfl (Nat.zero_le _)
    obtain he | ⟨_, _, he⟩ := storeAfterPowerLoss_cases s
    · exact h.stored x (he.symm.trans hx)
    · rw [← Option.some.inj (he.symm.trans hx)]
      exact h.limit

theorem IntegrityLaw.tick {s : State} (h : IntegrityLaw s) : IntegrityLaw s.tick :=
  { h with
    scrub := by
      have hsome : s.tick.scrubTimer.isSome = s.scrubTimer.isSome := by
        change (s.scrubTimer.map _).isSome = _
        exact Option.isSome_map
      exact hsome.trans h.scrub
    elapsed := fun e he => by
      obtain ⟨n, _, rfl⟩ := Option.map_eq_some_iff.mp he
      exact Nat.min_le_right _ _
    clock := Nat.min_le_right _ _ }

theorem IntegrityLaw.move (s t : State) (m : Move s t) (h : IntegrityLaw s) : IntegrityLaw t := by
  cases m with
  | link m => exact h.of_keeps m.keeps.image m.keeps.integrity
  | aside m => exact h.of_keeps m.keeps.image m.keeps.integrity
  | head m => exact h.of_keeps m.keeps.1 m.keeps.2.1
  | sect m => exact h.of_keeps m.keeps.1 m.keeps.2.1
  | classTaken d c rest =>
    obtain ⟨himage, hintegrity⟩ := classTaken_keeps s d c { s.heads[d] with outbox := rest }
    exact h.of_keeps himage hintegrity
  | integrity m => exact h.integrity m
  | load hmode _ m => exact h.load hmode m
  | mode m => exact h.mode m
  | sample inputs => exact h.of_keeps (sample_keeps s inputs).1 (sample_keeps s inputs).2.1
  | tick => exact h.tick

/-- Settles O58: every move keeps the law; the count stays below SOFT_LIMIT since the move that would reach it enters HALTED. -/
theorem integrityLawKept : Obligations.IntegrityLawKept := step_keeps IntegrityLaw.move

end Sys2Proof.Machine
end

section
/-! PROOFS. The law of the links, rings and attention lines is kept by every step (R159 to R161, R163, R166, R176, R177). -/

namespace Sys2Proof.Machine

/-! ### Lines -/

theorem receiver_next_held (rx : Receiver) (c : Character)
    (h : ∀ bytes, rx = .receiving bytes → 1 ≤ bytes.length ∧ bytes.length ≤ 64) :
    ∀ bytes, rx.next c = .receiving bytes → 1 ≤ bytes.length ∧ bytes.length ≤ 64 := by
  have htake : ∀ held : List Byte, ∀ bytes, takeCharacter held c = .receiving bytes → 1 ≤ bytes.length ∧ bytes.length ≤ 64 := by
    intro held bytes hb
    unfold takeCharacter at hb
    split at hb
    case isTrue hgood =>
      cases hb
      have hlt : held.length < maxHeld := of_decide_eq_true (Bool.and_eq_true_iff.mp hgood).2
      rw [List.length_append]
      exact ⟨Nat.le_add_left 1 _, hlt⟩
    case isFalse => cases hb
  intro bytes hb
  cases rx with
  | idle => exact htake [] bytes hb
  | receiving held => exact htake held bytes hb
  | discarding => cases hb

theorem Line.Lawful.next {x : Line} (h : x.Lawful) (c : Character) : Line.Lawful { x with rx := x.rx.next c } :=
  { h with held := receiver_next_held x.rx c h.held }

theorem Line.Lawful.stopRx {x : Line} (h : x.Lawful) : Line.Lawful { x with rx := .idle } :=
  { h with held := fun _ hb => by cases hb }

theorem Line.Lawful.start {x : Line} (h : x.Lawful) {bytes : List Byte} (hmin : 5 ≤ bytes.length) (hmax : bytes.length ≤ 64) :
    (x.start bytes).Lawful :=
  { h with
    sent := fun chars hc => by
      cases hc
      rw [sentCharacters_length]
      exact ⟨hmin, hmax, goodCharacter_of_mem_sentCharacters bytes⟩ }

theorem Line.Lawful.startFlagged {x : Line} (h : x.Lawful) {bytes : List Byte} (hmin : 5 ≤ bytes.length)
    (hmax : bytes.length ≤ 64) : (x.startFlagged bytes).Lawful := { h.start hmin hmax with }

theorem Line.Lawful.stopTx {x : Line} (h : x.Lawful) : Line.Lawful { x with tx := x.tx.sent } :=
  { h with sent := fun chars hc => by cases hx : x.tx <;> rw [hx] at hc <;> cases hc }

theorem Line.Lawful.gapOver {x : Line} (h : x.Lawful) : Line.Lawful { x with tx := x.tx.gapOver } := by
  refine { h with sent := fun chars hc => ?_ }
  cases hx : x.tx with
  | idle => rw [hx] at hc; cases hc
  | gap => rw [hx] at hc; cases hc
  | sending cs => rw [hx] at hc; exact h.sent chars (hx.trans hc)

theorem Line.Lawful.answered {x : Line} (h : x.Lawful) (r : Response) (hr : r.data.length ≤ 12) :
    Line.Lawful { x with slot := some r } :=
  { h with slot := fun r' he => by rw [← Option.some.inj he]; exact hr }

theorem Line.Lawful.taken {x : Line} (h : x.Lawful) : Line.Lawful { x with slot := none } :=
  { h with slot := fun _ he => by cases he }

theorem isRate_rateOf (n : Nat) : isRate (rateOf n) := by
  unfold rateOf isRate
  split <;> simp

theorem isRate_targetRate (s : State) (l : SupLink) : isRate (s.targetRate l) := by
  unfold State.targetRate
  split
  · exact isRate_rateOf _
  · exact .inl rfl

/-! ### Rings and attention lines -/

/-- The law of one supervisory controller. -/
structure Sup.Lawful (x : Sup) : Prop where
  line : x.line.Lawful
  ring : x.RingLawful
  attention : x.AttnLawful

/-- The attention law reads the mode, the line, the pulse, the notices and the mask. -/
theorem Sup.AttnLawful.of_same {x y : Sup} (h : x.AttnLawful) (hmode : y.attnMode = x.attnMode) (hattn : y.attn = x.attn)
    (hnotices : y.notices = x.notices) (hmask : y.mask = x.mask) (hpulse : y.pulse = x.pulse) : y.AttnLawful := by
  unfold Sup.AttnLawful at h ⊢
  rw [hmode, hattn, hnotices, hmask, hpulse]
  exact h

theorem attnLawful_level {x : Sup} (hmode : x.attnMode = .level) (hattn : x.attn = decide (x.notices &&& x.mask ≠ 0#10))
    (hpulse : x.pulse = none) : x.AttnLawful := by
  unfold Sup.AttnLawful
  rw [hmode]
  exact ⟨hattn, hpulse⟩

theorem attnLawful_pulse {x : Sup} (hmode : x.attnMode = .pulse) (hattn : x.attn = x.pulse.isSome) : x.AttnLawful := by
  unfold Sup.AttnLawful
  rw [hmode]
  exact hattn

theorem Sup.AttnLawful.of_level {x : Sup} (h : x.AttnLawful) (hmode : x.attnMode = .level) :
    x.attn = decide (x.notices &&& x.mask ≠ 0#10) ∧ x.pulse = none := by
  unfold Sup.AttnLawful at h
  rw [hmode] at h
  exact h

theorem Sup.AttnLawful.of_pulse {x : Sup} (h : x.AttnLawful) (hmode : x.attnMode = .pulse) : x.attn = x.pulse.isSome := by
  unfold Sup.AttnLawful at h
  rw [hmode] at h
  exact h

/-- What a controller does to notices, mask, mode and line leaves its line and its ring lawful. -/
theorem Sup.Lawful.of_attention {x y : Sup} (h : x.Lawful) (hline : y.line = x.line) (hring : y.ring = x.ring)
    (hattn : y.AttnLawful) : y.Lawful where
  line := by rw [hline]; exact h.line
  ring := by unfold Sup.RingLawful; rw [hring]; exact h.ring
  attention := hattn

theorem follow_attnLawful {x : Sup} (h : x.attnMode = .level → x.pulse = none) (k : x.attnMode = .pulse → x.attn = x.pulse.isSome) :
    x.follow.AttnLawful := by
  cases hmode : x.attnMode with
  | level =>
    have he : x.follow = { x with attn := decide (x.notices &&& x.mask ≠ 0#10) } := by unfold Sup.follow; rw [hmode]
    rw [he]
    exact attnLawful_level hmode rfl (h hmode)
  | pulse =>
    have he : x.follow = x := by unfold Sup.follow; rw [hmode]
    rw [he]
    exact attnLawful_pulse hmode (k hmode)

theorem follow_frame (x : Sup) : x.follow.line = x.line ∧ x.follow.ring = x.ring := by
  unfold Sup.follow
  split <;> exact ⟨rfl, rfl⟩

theorem Sup.Lawful.setNotice {x : Sup} (h : x.Lawful) (n : Notice) : (x.setNotice n).Lawful := by
  refine h.of_attention (by rw [setNotice_frame]) (by rw [setNotice_frame]) ?_
  cases hset : x.noticed n with
  | true => rw [setNotice_of_set n x hset]; exact h.attention
  | false =>
    cases hmode : x.attnMode with
    | level =>
      rw [setNotice_level n x hset hmode]
      exact attnLawful_level hmode rfl (h.attention.of_level hmode).2
    | pulse =>
      rw [setNotice_pulse n x hset hmode]
      split
      · exact attnLawful_pulse hmode rfl
      · exact attnLawful_pulse hmode (h.attention.of_pulse hmode)

theorem Sup.Lawful.ackNotices {x : Sup} (h : x.Lawful) (m : BitVec 16) : (x.ackNotices m).Lawful :=
  h.of_attention (follow_frame _).1 (follow_frame _).2
    (follow_attnLawful (fun hmode => (h.attention.of_level hmode).2) fun hmode => h.attention.of_pulse hmode)

theorem Sup.Lawful.takeMask {x : Sup} (h : x.Lawful) (m : BitVec 16) (a : Nat) : (x.takeMask m a).Lawful :=
  h.of_attention (follow_frame _).1 (follow_frame _).2 (follow_attnLawful (fun _ => rfl) fun _ => rfl)

theorem Sup.Lawful.endPulse {x : Sup} (h : x.Lawful) : x.endPulse.Lawful := by
  unfold Sup.endPulse
  split
  case h_1 e he =>
    split
    case isTrue =>
      refine h.of_attention rfl rfl ?_
      cases hmode : x.attnMode with
      | level => rw [(h.attention.of_level hmode).2] at he; cases he
      | pulse => exact attnLawful_pulse rfl rfl
    case isFalse => exact h
  case h_2 => exact h

/-- A pulse that ages stays a pulse (R176). -/
theorem Sup.Lawful.agePulse {x : Sup} (h : x.Lawful) (f : Nat → Nat) : Sup.Lawful { x with pulse := x.pulse.map f } := by
  refine h.of_attention rfl rfl ?_
  cases hmode : x.attnMode with
  | level =>
    obtain ⟨hattn, hpulse⟩ := h.attention.of_level hmode
    exact attnLawful_level rfl hattn (by rw [hpulse]; rfl)
  | pulse => exact attnLawful_pulse rfl ((h.attention.of_pulse hmode).trans Option.isSome_map.symm)

theorem Sup.Lawful.drop {x : Sup} (h : x.Lawful) (n : Nat) : Sup.Lawful { x with ring := x.ring.drop n } where
  line := h.line
  ring := by
    refine ⟨(List.length_drop ▸ Nat.sub_le _ _ : (x.ring.drop n).length ≤ x.ring.length).trans h.ring.1, ?_⟩
    change ((x.ring.drop n).map (·.seq)).Nodup
    rw [List.map_drop]
    exact h.ring.2.sublist (List.drop_sublist _ _)
  attention := h.attention.of_same rfl rfl rfl rfl rfl

theorem Sup.Lawful.emptyRing {x : Sup} (h : x.Lawful) : x.emptyRing.Lawful where
  line := h.line
  ring := ⟨Nat.zero_le _, List.nodup_nil⟩
  attention := h.attention.of_same rfl rfl rfl rfl rfl

theorem Sup.Lawful.restart {x : Sup} (h : x.Lawful) : x.restart.Lawful where
  line := h.line
  ring := ⟨Nat.zero_le _, List.nodup_nil⟩
  attention := attnLawful_level rfl (show false = decide (0#10 &&& 0#10 ≠ 0#10) by decide) rfl

theorem Sup.Lawful.offer {x : Sup} (h : x.Lawful) (e : AxleEvent) : (x.offer e).Lawful := by
  unfold Sup.offer
  simp only
  split
  case isTrue =>
    refine Sup.Lawful.setNotice ?_ .ringGap
    exact ⟨h.line, h.ring, h.attention.of_same rfl rfl rfl rfl rfl⟩
  case isFalse hroom =>
    obtain ⟨hsize, hnew⟩ := not_or.mp hroom
    have hz : Sup.Lawful { x with seq := x.seq + 1#8, ring := x.ring ++ [⟨x.seq, e.dp, e.dir, e.stamp⟩] } := by
      refine ⟨h.line, ⟨?_, ?_⟩, h.attention.of_same rfl rfl rfl rfl rfl⟩
      · change (x.ring ++ [_]).length ≤ 64
        rw [List.length_append]
        exact Nat.lt_of_not_le hsize
      · change ((x.ring ++ [_]).map fun r : EventRecord => r.seq).Nodup
        rw [List.map_append, List.nodup_append]
        refine ⟨h.ring.2, List.nodup_singleton _, ?_⟩
        rintro a ha b hb rfl
        obtain ⟨r, hr, hseq⟩ := List.mem_map.mp ha
        exact hnew ⟨r, hr, hseq.trans (List.mem_singleton.mp hb)⟩
    split
    · exact hz.setNotice .ringHalf
    · exact hz

/-- The law of a controller reads its line, its ring and its attention line. -/
theorem Sup.Lawful.of_same {x y : Sup} (h : x.Lawful) (hline : y.line = x.line) (hring : y.ring = x.ring)
    (hmode : y.attnMode = x.attnMode) (hattn : y.attn = x.attn) (hnotices : y.notices = x.notices) (hmask : y.mask = x.mask)
    (hpulse : y.pulse = x.pulse) : y.Lawful :=
  h.of_attention hline hring (h.attention.of_same hmode hattn hnotices hmask hpulse)

theorem Sup.Lawful.withLine {x : Sup} (h : x.Lawful) {y : Line} (hy : y.Lawful) : Sup.Lawful { x with line := y } where
  line := hy
  ring := h.ring
  attention := h.attention.of_same rfl rfl rfl rfl rfl

/-! ### The law, controller by controller -/

theorem LinkLaw.sup {s : State} (h : LinkLaw s) (l : SupLink) : (s.sup l).Lawful := ⟨h.line (.sup l), h.ring l, h.attention l⟩

theorem linkLaw_of_parts {s : State} (hsup : ∀ l, (s.sup l).Lawful) (hsvc : s.lcs.line.Lawful)
    (hrates : s.lcs.line.rxRate = 57600 ∧ s.lcs.line.txRate = 57600) : LinkLaw s where
  line := fun l => by
    cases l with
    | sup l => exact (hsup l).line
    | svl => exact hsvc
  service := hrates
  ring := fun l => (hsup l).ring
  attention := fun l => (hsup l).attention

/-- A move that leaves the service link alone and keeps each supervisory controller lawful. -/
theorem LinkLaw.of_sups {s t : State} (h : LinkLaw s) (hsup : ∀ l, (s.sup l).Lawful → (t.sup l).Lawful) (hlcs : t.lcs = s.lcs) :
    LinkLaw t :=
  linkLaw_of_parts (fun l => hsup l (h.sup l)) (by rw [hlcs]; exact h.line .svl) (by rw [hlcs]; exact h.service)

theorem LinkLaw.of_links {s t : State} (h : LinkLaw s) (h0 : t.lc0 = s.lc0) (h1 : t.lc1 = s.lc1) (hlcs : t.lcs = s.lcs) :
    LinkLaw t := by
  refine h.of_sups (fun l hl => ?_) hlcs
  cases l with
  | sl0 => change t.lc0.Lawful; rw [h0]; exact hl
  | sl1 => change t.lc1.Lawful; rw [h1]; exact hl

theorem LinkLaw.setSup {s : State} (h : LinkLaw s) (l : SupLink) {x : Sup} (hx : x.Lawful) : LinkLaw (s.setSup l x) := by
  refine h.of_sups (fun m hm => ?_) (setSup_lcs s l x)
  by_cases hml : m = l
  · subst hml; rw [sup_setSup_same]; exact hx
  · rw [sup_setSup_ne s l m x hml]; exact hm

theorem LinkLaw.setLine {s : State} (h : LinkLaw s) (l : Link) {x : Line} (hx : x.Lawful) (hrx : x.rxRate = (s.line l).rxRate)
    (htx : x.txRate = (s.line l).txRate) : LinkLaw (s.setLine l x) := by
  cases l with
  | sup l => exact h.setSup l ((h.sup l).withLine hx)
  | svl => exact linkLaw_of_parts (fun l => h.sup l) hx ⟨hrx.trans h.service.1, htx.trans h.service.2⟩

theorem LinkLaw.asks {s : State} (h : LinkLaw s) (a : SupLink → List Notice) : LinkLaw (s.asks a) := by
  refine h.of_sups (fun l hl => ?_) rfl
  rw [sup_asks]
  exact hl.of_same rfl rfl rfl rfl rfl rfl rfl

theorem LinkLaw.respond {s : State} (h : LinkLaw s) (l : Link) (kind : Byte) {a : Answer} (ha : a.data.length ≤ 12) :
    LinkLaw (s.respond l kind a) :=
  h.setLine l ((h.line l).answered ⟨kind, a.result, a.data⟩ ha) rfl rfl

theorem LinkLaw.overrunOn {s : State} (h : LinkLaw s) (l : Link) : LinkLaw (s.overrunOn l) :=
  h.setLine l { h.line l with } rfl rfl

theorem LinkLaw.settleRxRate {s : State} (h : LinkLaw s) (l : Link) : LinkLaw (s.settleRxRate l) := by
  unfold State.settleRxRate
  split
  · exact h
  · split
    case isTrue =>
      exact h.setSup _ ((h.sup _).withLine { (h.sup _).line with rates := ⟨isRate_targetRate s _, (h.sup _).line.rates.2⟩ })
    case isFalse => exact h

theorem LinkLaw.settleTxRate {s : State} (h : LinkLaw s) (l : Link) : LinkLaw (s.settleTxRate l) := by
  unfold State.settleTxRate
  split
  · exact h
  · split
    case isTrue =>
      exact h.setSup _ ((h.sup _).withLine { (h.sup _).line with rates := ⟨(h.sup _).line.rates.1, isRate_targetRate s _⟩ })
    case isFalse => exact h

theorem LinkLaw.reject {s : State} (h : LinkLaw s) (l : Link) : LinkLaw (s.reject l) := by
  have hfault : LinkLaw (s.setLine l { s.line l with lineFault := true }) := h.setLine l { h.line l with } rfl rfl
  cases l with
  | sup l => exact hfault.setSup l ((hfault.sup l).setNotice .lineFault)
  | svl => exact hfault

theorem LinkLaw.judgeTelegram {s : State} (h : LinkLaw s) (l : Link) (bytes : List Byte) : LinkLaw (s.judgeTelegram l bytes) := by
  unfold State.judgeTelegram
  split
  · exact h.reject l
  · cases l with
    | sup l =>
      simp only [State.acceptSup]
      split
      · exact h.overrunOn (.sup l)
      · split
        · exact h.respond (.sup l) _ (plain_fits _)
        · exact h.setSup l ((h.sup l).of_same rfl rfl rfl rfl rfl rfl rfl)
    | svl =>
      simp only [State.acceptSvc]
      split
      · exact h.overrunOn .svl
      · split
        · exact h.respond .svl _ (plain_fits _)
        · exact linkLaw_of_parts (fun l => h.sup l) (h.line .svl) h.service

theorem LinkLaw.endTelegram {s : State} (h : LinkLaw s) (l : Link) : LinkLaw (s.endTelegram l) := by
  have hidle : LinkLaw (s.setLine l { s.line l with rx := .idle }) := h.setLine l (h.line l).stopRx rfl rfl
  unfold State.endTelegram
  simp only
  split
  · exact h
  · exact hidle.judgeTelegram l _
  · exact hidle.reject l

/-! ### Telegrams that start -/

theorem telegram_length (kind : Byte) (payload : List Byte) : (telegram kind payload).length = payload.length + 5 := by
  simp [telegram, bytes16]

theorem Line.Lawful.startTelegram {x : Line} (h : x.Lawful) (kind : Byte) {payload : List Byte} (hfit : payload.length ≤ 59) :
    (x.start (telegram kind payload)).Lawful ∧ (x.startFlagged (telegram kind payload)).Lawful := by
  have hmin : 5 ≤ (telegram kind payload).length := by rw [telegram_length]; omega
  have hmax : (telegram kind payload).length ≤ 64 := by rw [telegram_length]; omega
  exact ⟨h.start hmin hmax, h.startFlagged hmin hmax⟩

theorem statusPayload_length (s : State) (l : SupLink) : (s.statusPayload l).length ≤ 59 := by
  have hsects : (s.supervised l).length ≤ 24 := by
    refine (List.length_filter_le _ _).trans ?_
    rw [List.length_finRange]
  have hpairs : ((s.supervised l).flatMap fun k => [byte k.val, s.stateByte l k]).length = 2 * (s.supervised l).length := by
    generalize s.supervised l = ks
    induction ks with
    | nil => rfl
    | cons k ks ih => simp; omega
  unfold State.statusPayload
  simp only [List.length_cons, List.length_append, hpairs, bytes16, List.length_nil]
  omega

theorem eventsPayload_length (x : Sup) : (eventsPayload x).length ≤ 59 := by
  have htaken : (x.ring.take eventsTaken).length ≤ 6 := List.length_take_le _ _
  have hrecords : ((x.ring.take eventsTaken).flatMap eventBytes).length = 5 * (x.ring.take eventsTaken).length := by
    generalize x.ring.take eventsTaken = rs
    induction rs with
    | nil => rfl
    | cons r rs ih => simp [eventBytes, bytes16]; omega
  unfold eventsPayload
  simp only [List.length_cons, hrecords]
  omega

theorem LinkLaw.startResponse {s : State} (h : LinkLaw s) (l : Link) : LinkLaw (s.startResponse l) := by
  unfold State.startResponse
  split
  case h_1 r _ hslot =>
    have hrate := h.settleTxRate l
    have hfit : r.data.length ≤ 12 := (h.line l).slot r hslot
    have hpayload : ([r.kind, byte r.result.code, ((s.settleTxRate l).line l).flagsByte] ++ r.data).length ≤ 59 := by
      simp only [List.length_append, List.length_cons, List.length_nil]; omega
    exact hrate.setLine l ((hrate.line l).startTelegram 0x82#8 hpayload).2.taken rfl rfl
  case h_2 => exact h

theorem LinkLaw.startStatus {s : State} (h : LinkLaw s) (l : SupLink) : LinkLaw (s.startStatus l) := by
  unfold State.startStatus
  split
  case isTrue =>
    have hrate := h.settleTxRate (.sup l)
    have hline := ((hrate.sup l).line.startTelegram 0x81#8 (statusPayload_length (s.settleTxRate (.sup l)) l)).2
    exact hrate.setSup l (((hrate.sup l).withLine hline).of_same rfl rfl rfl rfl rfl rfl rfl)
  case isFalse => exact h

theorem LinkLaw.startEvents {s : State} (h : LinkLaw s) (l : SupLink) : LinkLaw (s.startEvents l) := by
  unfold State.startEvents
  split
  case isTrue =>
    have hrate := h.settleTxRate (.sup l)
    have hline := ((hrate.sup l).line.startTelegram 0x83#8 (eventsPayload_length ((s.settleTxRate (.sup l)).sup l))).1
    exact hrate.setSup l ((((hrate.sup l).drop eventsTaken).withLine hline).of_same rfl rfl rfl rfl rfl rfl rfl)
  case isFalse => exact h

/-! ### Every move -/

theorem LinkLaw.link {s t : State} (m : LinkMove s t) (h : LinkLaw s) : LinkLaw t := by
  cases m with
  | asks a => exact h.asks a
  | unhandSup l => exact h.setSup l ((h.sup l).of_same rfl rfl rfl rfl rfl rfl rfl)
  | unhandSvc => exact linkLaw_of_parts (fun l => h.sup l) (h.line .svl) h.service
  | respond l kind a ha => exact h.respond l kind ha
  | overrun l => exact h.overrunOn l
  | handOff e on =>
    rw [handOff_eq]
    refine h.of_sups (fun l hl => ?_) rfl
    cases l with
    | sl0 => cases on.sl0 <;> [exact hl; exact hl.offer e]
    | sl1 => cases on.sl1 <;> [exact hl; exact hl.offer e]
  | ackNotices l m => exact h.setSup l ((h.sup l).ackNotices m)
  | takeMask l m a => exact h.setSup l ((h.sup l).takeMask m a)
  | character l c =>
    have hrate := h.settleRxRate l
    exact hrate.setLine l ((hrate.line l).next c) rfl rfl
  | telegramEnd l => exact h.endTelegram l
  | startResponse l => exact h.startResponse l
  | startStatus l => exact h.startStatus l
  | startEvents l => exact h.startEvents l
  | endTransmit l => exact h.setLine l (h.line l).stopTx rfl rfl
  | endGap l => exact h.setLine l (h.line l).gapOver rfl rfl
  | takeReport l =>
    unfold State.takeReport
    split
    · exact h.setSup l ((h.sup l).of_same rfl rfl rfl rfl rfl rfl rfl)
    · exact h
  | settleRxRate l => exact h.settleRxRate l
  | settleTxRate l => exact h.settleTxRate l
  | takeAsked l n =>
    unfold State.takeAsked
    split
    · refine h.setSup l (Sup.Lawful.setNotice ?_ n)
      exact (h.sup l).of_same rfl rfl rfl rfl rfl rfl rfl
    · exact h
  | takePulseEnd l => exact h.setSup l (h.sup l).endPulse

theorem LinkLaw.enterHalted {s : State} (h : LinkLaw s) (c : HaltCause) : LinkLaw (s.enterHalted c) := by
  have htold : ∀ (x : Sup) (a : List Notice) (b : Bool), x.Lawful →
      (if b = true then (Sup.setNotice .halt { x with asked := x.asked ++ a }).setNotice .change
        else Sup.setNotice .halt { x with asked := x.asked ++ a }).Lawful := by
    intro x a b hx
    have hy : Sup.Lawful { x with asked := x.asked ++ a } := hx.of_same rfl rfl rfl rfl rfl rfl rfl
    cases b
    · exact hy.setNotice .halt
    · exact (hy.setNotice .halt).setNotice .change
  rw [enterHalted_eq]
  refine h.of_sups (fun l hl => ?_) rfl
  cases l with
  | sl0 => exact htold s.lc0 _ _ hl
  | sl1 => exact htold s.lc1 _ _ hl

theorem LinkLaw.enterImage {s : State} (h : LinkLaw s) (i : Image) (g : Signature) : LinkLaw (s.enterImage i g) := by
  refine h.of_sups (fun l hl => ?_) rfl
  cases l <;> exact hl.of_same rfl rfl rfl rfl rfl rfl rfl

theorem Sup.Lawful.reportAfter {x : Sup} (h : x.Lawful) (b : Bool) : (x.reportAfter b).Lawful :=
  h.of_same rfl rfl rfl rfl rfl rfl rfl

theorem line_reset_lawful (rate : Nat) (h : isRate rate) : (Line.reset rate).Lawful where
  held := fun _ hb => by cases hb
  sent := fun _ hc => by cases hc
  slot := fun _ hr => by cases hr
  rates := ⟨h, h⟩

theorem sup_reset_lawful : Sup.reset.Lawful where
  line := line_reset_lawful 19200 (.inl rfl)
  ring := ⟨Nat.zero_le _, List.nodup_nil⟩
  attention := attnLawful_level rfl rfl rfl

/-- The controllers right after power-on. -/
theorem linkLaw_of_reset {t : State} (h0 : t.lc0 = Sup.reset) (h1 : t.lc1 = Sup.reset) (hs : t.lcs = Svc.reset) : LinkLaw t := by
  refine linkLaw_of_parts (fun l => ?_) ?_ ?_
  · cases l with
    | sl0 => change t.lc0.Lawful; rw [h0]; exact sup_reset_lawful
    | sl1 => change t.lc1.Lawful; rw [h1]; exact sup_reset_lawful
  · rw [hs]; exact line_reset_lawful 57600 (.inr (.inr (.inl rfl)))
  · rw [hs]; exact ⟨rfl, rfl⟩

theorem LinkLaw.mode {s t : State} (m : ModeMove s t) (h : LinkLaw s) : LinkLaw t := by
  cases m with
  | halt c => exact h.enterHalted c
  | softHalt => exact LinkLaw.enterHalted (s := { s with softErrors := s.softErrors + 1 }) (h.of_links rfl rfl rfl) _
  | start =>
    obtain he | ⟨_, x, _, _, he⟩ | ⟨_, he⟩ := completeStart_cases s <;> rw [he]
    · exact h
    · exact h.enterImage _ _
    · exact h.of_links rfl rfl rfl
  | clearing =>
    obtain he | ⟨_, _, he⟩ := completeClearing_cases s <;> rw [he]
    · exact h
    · exact h.of_links rfl rfl rfl
  | verify =>
    obtain he | ⟨_, _, he⟩ | ⟨_, o, he⟩ := completeVerify_cases s <;> rw [he]
    · exact h
    · exact LinkLaw.enterImage (s := { s with store := some ⟨s.image, s.image.signature⟩ }) (h.of_links rfl rfl rfl) _ _
    · exact h.of_links rfl rfl rfl
  | abandon =>
    obtain ⟨_, he⟩ | ⟨_, he⟩ := abandonLoad_cases s <;> rw [he]
    · exact h
    · exact h.of_links rfl rfl rfl
  | beginLoad =>
    rw [beginLoad_eq]
    refine h.of_sups (fun l hl => ?_) rfl
    cases l <;> exact (hl.reportAfter s.inForce.isSome).emptyRing
  | restart =>
    rw [restart_eq]
    refine h.of_sups (fun l hl => ?_) rfl
    cases l <;> exact (hl.reportAfter s.inForce.isSome).restart
  | endorse l g =>
    obtain he | ⟨_, _, _, he⟩ | ⟨_, _, _, he⟩ := endorse_cases l g s <;> rw [he]
    · exact h
    · cases l <;> exact h.of_links rfl rfl rfl
    · cases l <;> exact h.of_links rfl rfl rfl
  | unendorse l => cases l <;> exact h.of_links rfl rfl rfl
  | withdraw l =>
    obtain ⟨a, he⟩ := stopCounting_eq (s.setEndorsed l false)
    rw [he]
    refine LinkLaw.asks ?_ a
    cases l <;> exact h.of_links rfl rfl rfl
  | powerOn => exact linkLaw_of_reset rfl rfl rfl

theorem LinkLaw.move (s t : State) (m : Move s t) (h : LinkLaw s) : LinkLaw t := by
  cases m with
  | link m => exact h.link m
  | aside m =>
    cases m with
    | queue | key => exact h.of_links rfl rfl rfl
    | period => unfold State.takePeriod; split <;> exact h.of_links rfl rfl rfl
  | head m =>
    obtain ⟨v, b, a, rfl⟩ := m.frame
    exact LinkLaw.asks (s := { s with heads := v, drainDue := b }) (h.of_links rfl rfl rfl) a
  | sect m =>
    obtain ⟨v, w, a, rfl⟩ := m.frame
    exact LinkLaw.asks (s := { s with sects := v, records := w }) (h.of_links rfl rfl rfl) a
  | classTaken d c rest =>
    obtain ⟨w, a, he, _⟩ := classTaken_frame s d c { s.heads[d] with outbox := rest }
    rw [he]
    refine LinkLaw.asks ?_ a
    exact h.of_links rfl rfl rfl
  | integrity m =>
    cases m with
    | startScrub => unfold State.startScrub; split <;> exact h.of_links rfl rfl rfl
    | endPass | clearErrors | softError | endWindow | subsequent => exact h.of_links rfl rfl rfl
  | load _ _ m =>
    obtain ⟨_, _, _, _, _, _, rfl⟩ := m.frame
    exact h.of_links rfl rfl rfl
  | mode m => exact h.mode m
  | sample inputs =>
    refine h.of_sups (fun l hl => ?_) rfl
    cases l <;> exact hl.agePulse _
  | tick =>
    refine h.of_sups (fun l hl => ?_) rfl
    cases l <;> exact hl.of_same rfl rfl rfl rfl rfl rfl rfl

/-- Settles O60: every move keeps each controller lawful, and no move gives the service link another rate. -/
theorem linkLawKept : Obligations.LinkLawKept := step_keeps LinkLaw.move

end Sys2Proof.Machine
end

section
/-! PROOFS. The law of the pending reset records is kept by every step (R105, R107). -/

namespace Sys2Proof.Machine

theorem RecordLaw.of_keeps {s t : State} (i : KeepsImage s t) (k : KeepsSections s t) (h : RecordLaw s) : RecordLaw t := by
  intro j r hr
  unfold State.windowTicks
  rw [i.mode, i.inForce, i.image, k.sects]
  exact h j r (by rw [← k.records]; exact hr)

theorem recordLaw_of_none {t : State} (h : ∀ k : SectNo, t.records[k] = none) : RecordLaw t := by
  intro k r hr
  rw [h k] at hr
  cases hr

/-- Outside COUNTING there is no record. -/
theorem RecordLaw.unopened {s : State} (h : RecordLaw s) (hmode : s.mode ≠ .counting) (k : SectNo) : s.records[k] = none :=
  Option.eq_none_iff_forall_ne_some.mpr fun r hr => hmode (h k r hr).1

theorem RecordLaw.of_not_counting {s t : State} (h : RecordLaw s) (hmode : s.mode ≠ .counting) (hrecords : t.records = s.records) :
    RecordLaw t := recordLaw_of_none fun k => by rw [hrecords]; exact h.unopened hmode k

/-- A section with a record is a used one (R105). -/
theorem RecordLaw.used {s : State} (h : RecordLaw s) {k : SectNo} {r : PendingRecord} (hr : s.records[k] = some r) :
    s.used k = true := by
  obtain ⟨_, hforce, hshared, _⟩ := h k r hr
  unfold State.used
  rw [hforce, hshared]
  rfl

/-- A change of section records that removes the records of the sections whose state code changed (R116). -/
theorem RecordLaw.changed {s t : State} (h : RecordLaw s) (i : KeepsImage s t) (f : SectNo → Sect → Sect)
    (hsects : ∀ k : SectNo, t.sects[k] = f k s.sects[k])
    (hrecords : ∀ k : SectNo, t.records[k] =
      if s.used k = true ∧ (f k s.sects[k]).state ≠ s.sects[k].state then none else s.records[k]) : RecordLaw t := by
  intro k r hr
  rw [hrecords k] at hr
  split at hr
  case isTrue => cases hr
  case isFalse hsame =>
    have hstate : (f k s.sects[k]).state = s.sects[k].state :=
      not_not.mp fun hne => hsame ⟨h.used hr, hne⟩
    unfold State.windowTicks
    rw [i.mode, i.inForce, i.image, hsects k, hstate]
    exact h k r hr

/-- One section's record is removed, and at most that section's state has changed. -/
theorem RecordLaw.removed {s t : State} (h : RecordLaw s) (i : KeepsImage s t) (k : SectNo) (hnone : t.records[k] = none)
    (hsects : ∀ j : SectNo, j ≠ k → t.sects[j] = s.sects[j]) (hrecords : ∀ j : SectNo, j ≠ k → t.records[j] = s.records[j]) :
    RecordLaw t := by
  intro j r hr
  by_cases hj : j = k
  · rw [hj, hnone] at hr; cases hr
  · unfold State.windowTicks
    rw [i.mode, i.inForce, i.image, hsects j hj]
    exact h j r (by rw [← hrecords j hj]; exact hr)

theorem resettable_iff (x : SectState) : resettable x = true ↔ x = .occupied ∨ x = .disturbed := by
  cases x <;> decide

theorem RecordLaw.sect {s t : State} (m : SectMove s t) (h : RecordLaw s) : RecordLaw t := by
  have himage := m.keeps.1
  cases m with
  | term d dir x hmode =>
    cases hu : s.used x.sect with
    | false => rw [applyTerm_of_unused d dir s x hu]; exact h
    | true =>
      refine h.removed himage x.sect ?_ (fun j hj => ?_) fun j hj => ?_ <;> rw [applyTerm_of_used d dir s x hu]
      · exact records_setRecord_same _ _ _
      · exact sects_setSect_ne s x.sect j _ hj
      · exact records_setRecord_ne _ x.sect j _ hj
  | settle k =>
    by_cases hdue : s.settleDue k = true
    · obtain ⟨w, a, he, hw⟩ :=
        changeSects_frame s fun j x => if j = k then { x with state := .clear, count := 0, settle := none } else x
      have htaken : s.takeSettle k = _ := (if_pos hdue).trans he
      refine h.changed himage (fun j x => if j = k then { x with state := .clear, count := 0, settle := none } else x)
        (fun j => ?_) fun j => ?_ <;> rw [htaken]
      · exact sectsBy_get s _ j
      · exact hw j
    · rw [takeSettle_of_not_due s k hdue]; exact h
  | dropRecord k =>
    refine h.removed himage k ?_ (fun j hj => ?_) fun j hj => ?_ <;> rw [dropRecord_eq]
    · exact records_setRecord_same s k _
    · rfl
    · exact records_setRecord_ne s k j _ hj
  | clearRecord k =>
    exact h.removed himage k (records_setRecord_same s k _) (fun _ _ => rfl) fun j hj => records_setRecord_ne s k j _ hj
  | openRecord k kind l hmode hused hshared hstate =>
    intro j r hr
    by_cases hj : j = k
    · subst hj
      rw [records_setRecord_same] at hr
      rw [← Option.some.inj hr]
      exact ⟨hmode, (Bool.and_eq_true_iff.mp hused).1, hshared, (resettable_iff _).mp hstate, Nat.zero_le _⟩
    · rw [records_setRecord_ne s k j _ hj] at hr
      exact h j r hr
  | reset kind k hmode hused hnone =>
    refine h.removed himage k ?_ (fun j hj => ?_) fun j hj => ?_ <;> rw [performReset_eq]
    · exact hnone
    · exact sects_setSect_ne s k j _ hj
    · rfl

theorem RecordLaw.mode {s t : State} (m : ModeMove s t) (h : RecordLaw s) : RecordLaw t := by
  have hawait : s.mode = .awaitEndorse → s.mode ≠ .counting := fun he => by rw [he]; decide
  cases m with
  | halt c => rw [enterHalted_eq]; exact recordLaw_of_none noRecords_get
  | softHalt => rw [enterHalted_eq]; exact recordLaw_of_none noRecords_get
  | start =>
    obtain he | ⟨hmode, x, _, _, he⟩ | ⟨hmode, he⟩ := completeStart_cases s <;> rw [he]
    · exact h
    · exact h.of_not_counting (by rw [hmode]; decide) rfl
    · exact h.of_not_counting (by rw [hmode]; decide) rfl
  | clearing =>
    obtain he | ⟨hmode, _, he⟩ := completeClearing_cases s <;> rw [he]
    · exact h
    · exact h.of_not_counting (by rw [hmode]; decide) rfl
  | verify =>
    obtain he | ⟨hmode, _, he⟩ | ⟨hmode, o, he⟩ := completeVerify_cases s <;> rw [he]
    · exact h
    · exact h.of_not_counting (by rw [hmode]; decide) rfl
    · exact h.of_not_counting (by rw [hmode]; decide) rfl
  | abandon =>
    obtain ⟨_, he⟩ | ⟨hmode, he⟩ := abandonLoad_cases s <;> rw [he]
    · exact h
    · exact h.of_not_counting (by rw [hmode]; decide) rfl
  | beginLoad hfree =>
    rw [beginLoad_eq]
    exact h.of_not_counting (fun hc => hfree (.inr (.inr hc))) rfl
  | restart => rw [restart_eq]; exact recordLaw_of_none noRecords_get
  | endorse l g =>
    obtain he | ⟨hmode, _, _, he⟩ | ⟨hmode, _, _, he⟩ := endorse_cases l g s <;> rw [he]
    · exact h
    · exact h.of_not_counting (hawait hmode) (setEndorsed_records s l true)
    · exact h.of_not_counting (hawait hmode) (setEndorsed_records s l true)
  | unendorse l hmode => exact h.of_not_counting hmode (setEndorsed_records s l false)
  | withdraw l =>
    obtain ⟨a, he⟩ := stopCounting_eq (s.setEndorsed l false)
    rw [he]
    exact recordLaw_of_none noRecords_get
  | powerOn => exact recordLaw_of_none noRecords_get

/-- The entries of the section and record vectors after a tick. -/
theorem tick_sects (s : State) (k : SectNo) : s.tick.sects[k] = s.sects[k].tick (s.settleTime k) := tabulate_get _ k

theorem tick_records (s : State) (k : SectNo) :
    s.tick.records[k] = s.records[k].map fun r => { r with elapsed := min (r.elapsed + 1) s.windowTicks } := tabulate_get _ k

theorem RecordLaw.tick {s : State} (h : RecordLaw s) : RecordLaw s.tick := by
  intro k r hr
  rw [tick_records] at hr
  obtain ⟨r', hr', rfl⟩ := Option.map_eq_some_iff.mp hr
  obtain ⟨hmode, hforce, hshared, hstate, _⟩ := h k r' hr'
  rw [tick_sects]
  exact ⟨hmode, hforce, hshared, hstate, Nat.min_le_right _ _⟩

theorem RecordLaw.move (s t : State) (m : Move s t) (h : RecordLaw s) : RecordLaw t := by
  cases m with
  | link m => exact h.of_keeps m.keeps.image m.keeps.sections
  | aside m => exact h.of_keeps m.keeps.image m.keeps.sections
  | head m => exact h.of_keeps m.keeps.1 m.keeps.2.2
  | sect m => exact h.sect m
  | classTaken d c rest =>
    have himage := (classTaken_keeps s d c { s.heads[d] with outbox := rest }).1
    obtain ⟨w, a, he, hw⟩ := classTaken_frame s d c { s.heads[d] with outbox := rest }
    refine h.changed himage (State.classed { s with view := s.view.set d c } d c) (fun k => ?_) fun k => ?_ <;> rw [he]
    · exact tabulate_get _ k
    · exact hw k
  | integrity m => exact h.of_keeps m.keeps.1 m.keeps.2.1
  | load hmode _ m => exact h.of_not_counting (by rw [hmode]; decide) m.keeps.2.1.records
  | mode m => exact h.mode m
  | sample inputs => exact h.of_keeps (sample_keeps s inputs).1 (sample_keeps s inputs).2.2
  | tick => exact h.tick

/-- Settles O55: every move keeps the law, since a section whose state code changes loses its record, and COUNTING is left with none. -/
theorem recordLawKept : Obligations.RecordLawKept := step_keeps RecordLaw.move

end Sys2Proof.Machine
end

section
/-! PROOFS. The law of the section records is kept by every step (R60, R61, R63, R65, R70, R79): a law of each record for itself, under what the
rest of the state says of its section. -/

namespace Sys2Proof.Machine

/-! ### The law of one section record -/

/-- The law of one section record, of a used section or not, in COUNTING or not, with every bounding head FREE in the view or not, and with a
settle time. -/
structure Sect.Lawful (used counting free : Bool) (limit : Nat) (x : Sect) : Prop where
  unused : used = false → x = Sect.reset
  held : counting = false → x.state = .disturbed
  count : countFits x.state x.count
  cause : x.cause = .none ↔ x.state ≠ .disturbed
  causeDP : x.causeDP.isSome = x.cause.hasDP
  settle : x.settle.isSome = (decide (x.state = .settling) && free)
  elapsed : ∀ e : Nat, x.settle = some e → e ≤ limit
  clear : x.state = .clear → free = true

/-- The law of a section's record in a state. -/
def State.SectLawful (s : State) (k : SectNo) (x : Sect) : Prop :=
  x.Lawful (s.used k) (decide (s.mode = .counting)) (s.viewFree k) (s.settleTime k)

theorem SectionLaw.sect {s : State} (h : SectionLaw s) (k : SectNo) : s.SectLawful k s.sects[k] where
  unused := h.unused k
  held := fun hc => h.held (of_decide_eq_false hc) k
  count := h.count k
  cause := h.cause k
  causeDP := h.causeDP k
  settle := h.settle k
  elapsed := h.elapsed k
  clear := h.clear k

theorem sectionLaw_of_sects {s : State} (hforce : s.inForce.isSome = s.mode.running) (h : ∀ k, s.SectLawful k s.sects[k]) :
    SectionLaw s where
  force := hforce
  unused := fun k => (h k).unused
  held := fun hm k => (h k).held (decide_eq_false hm)
  count := fun k => (h k).count
  cause := fun k => (h k).cause
  causeDP := fun k => (h k).causeDP
  settle := fun k => (h k).settle
  elapsed := fun k => (h k).elapsed
  clear := fun k => (h k).clear

theorem sect_reset_lawful (used counting free : Bool) (limit : Nat) : Sect.reset.Lawful used counting free limit where
  unused := fun _ => rfl
  held := fun _ => rfl
  count := (by decide : 0 ≤ 2047)
  cause := by decide
  causeDP := rfl
  settle := rfl
  elapsed := fun _ he => by cases he
  clear := fun hc => by cases hc

/-- A record that is DISTURBED, with a cause and its detection point, and the timer stopped, is lawful for a used section. -/
theorem sect_lawful_of_disturbed {counting free : Bool} {limit : Nat} {x : Sect} (hstate : x.state = .disturbed)
    (hcount : x.count ≤ 2047) (hcause : x.cause ≠ .none) (hdp : x.causeDP.isSome = x.cause.hasDP) (hsettle : x.settle = none) :
    x.Lawful true counting free limit where
  unused := fun hu => by cases hu
  held := fun _ => hstate
  count := by rw [hstate]; exact hcount
  cause := ⟨fun hc => absurd hc hcause, fun hs => absurd hstate hs⟩
  causeDP := hdp
  settle := by rw [hsettle, hstate]; rfl
  elapsed := fun _ he => by rw [hsettle] at he; cases he
  clear := fun hc => by rw [hstate] at hc; cases hc

/-- A record in another state, with no cause, is lawful for a used section in COUNTING, if count, timer and view go with its state. -/
theorem sect_lawful_of_active {free : Bool} {limit : Nat} {x : Sect} (hstate : x.state ≠ .disturbed)
    (hcount : countFits x.state x.count) (hcause : x.cause = .none) (hdp : x.causeDP = none)
    (hsettle : x.settle.isSome = (decide (x.state = .settling) && free)) (helapsed : ∀ e, x.settle = some e → e ≤ limit)
    (hclear : x.state = .clear → free = true) : x.Lawful true true free limit where
  unused := fun hu => by cases hu
  held := fun hc => by cases hc
  count := hcount
  cause := ⟨fun _ => hstate, fun _ => hcause⟩
  causeDP := by rw [hdp, hcause]; rfl
  settle := hsettle
  elapsed := helapsed
  clear := hclear

section Facts

variable {used counting free : Bool} {limit : Nat} {x : Sect}

/-- Every count is at most 2047 (R45, R61). -/
theorem countFits_le {y : SectState} {n : Nat} (h : countFits y n) : n ≤ 2047 := by
  cases y with
  | occupied | sweeping => exact h.2
  | disturbed => exact h
  | clear | settling | restoring => exact (Eq.le h).trans (by decide)

/-- A section that is not DISTURBED has no cause (R63). -/
theorem Sect.Lawful.no_cause (h : x.Lawful used counting free limit) (hstate : x.state ≠ .disturbed) :
    x.cause = .none ∧ x.causeDP = none := by
  have hcause := h.cause.mpr hstate
  refine ⟨hcause, Option.not_isSome_iff_eq_none.mp ?_⟩
  rw [h.causeDP, hcause]
  decide

/-- Outside SETTLING the timer is stopped (R65). -/
theorem Sect.Lawful.stopped (h : x.Lawful used counting free limit) (hstate : x.state ≠ .settling) : x.settle = none :=
  Option.not_isSome_iff_eq_none.mp (by rw [h.settle, decide_eq_false hstate, Bool.false_and]; decide)

/-- An unused section is DISTURBED, as is every section outside COUNTING. -/
theorem Sect.Lawful.disturbed_of_unused (h : x.Lawful used counting free limit) (hu : used = false) : x.state = .disturbed := by
  rw [h.unused hu]; rfl

/-- A section that is not DISTURBED is a used one in COUNTING. -/
theorem Sect.Lawful.active (h : x.Lawful used counting free limit) (hstate : x.state ≠ .disturbed) : used = true ∧ counting = true :=
  ⟨Bool.eq_true_of_not_eq_false fun hu => hstate (h.disturbed_of_unused hu), Bool.eq_true_of_not_eq_false fun hc => hstate (h.held hc)⟩

/-- The view matters to a section that is SETTLING or CLEAR alone. -/
theorem Sect.Lawful.of_view (h : x.Lawful used counting free limit) (free' : Bool)
    (hstate : free' = free ∨ (x.state ≠ .settling ∧ x.state ≠ .clear)) : x.Lawful used counting free' limit := by
  rcases hstate with rfl | ⟨hs, hc⟩
  · exact h
  · exact { h with
      settle := h.settle.trans (by rw [decide_eq_false hs]; rfl)
      clear := fun hx => absurd hx hc }

/-- A DISTURBED section may leave COUNTING or enter it. -/
theorem Sect.Lawful.of_mode (h : x.Lawful used counting free limit) (hstate : x.state = .disturbed) (counting' : Bool) :
    x.Lawful used counting' free limit := { h with held := fun _ => hstate }

theorem Sect.Lawful.raise (h : x.Lawful used counting free limit) {c : Cause} {dp : Option DP} (hc : c ≠ .none)
    (hdp : dp.isSome = c.hasDP) (hused : used = true) (counting' : Bool) : (x.raise c dp).Lawful used counting' free limit := by
  by_cases hstate : x.state = .disturbed
  · rw [raise_of_disturbed c dp x hstate]; exact h.of_mode hstate counting'
  · rw [raise_of_not_disturbed c dp x hstate, hused]
    exact sect_lawful_of_disturbed rfl (countFits_le h.count) hc hdp rfl

/-- A cause raised on a section if it is used (R63). -/
theorem Sect.Lawful.raise_if (h : x.Lawful used counting free limit) {c : Cause} {dp : Option DP} (hc : c ≠ .none)
    (hdp : dp.isSome = c.hasDP) (counting' : Bool) : (if used then x.raise c dp else x).Lawful used counting' free limit := by
  cases used with
  | true => exact h.raise hc hdp rfl counting'
  | false => exact h.of_mode (h.disturbed_of_unused rfl) counting'

theorem Sect.Lawful.touchHistory (h : x.Lawful true counting free limit) (counter : BitVec 16) :
    (x.touchHistory counter).Lawful true counting free limit := { h with unused := fun hu => by cases hu }

theorem isSome_startSettle (free : Bool) : (startSettle free).isSome = free := by cases free <;> rfl

theorem startSettle_le {free : Bool} {e : Nat} (limit : Nat) (h : startSettle free = some e) : e ≤ limit := by
  cases free
  · cases h
  · cases h; exact Nat.zero_le _

/-- A section that enters SETTLING with its timer started where every bounding head is FREE (R65, R67). -/
theorem sect_lawful_settling (x : Sect) (hcause : x.cause = .none) (hdp : x.causeDP = none) :
    Sect.Lawful true true free limit { x with state := .settling, count := 0, settle := startSettle free } :=
  sect_lawful_of_active (fun hc => by cases hc) rfl hcause hdp (isSome_startSettle free) (fun _ he => startSettle_le limit he)
    (fun hc => by cases hc)

/-- A section that enters a state with no timer. -/
theorem sect_lawful_stopped (x : Sect) {y : SectState} {n : Nat} (hy : y = .occupied ∨ y = .sweeping ∨ y = .restoring)
    (hcount : countFits y n) (hcause : x.cause = .none) (hdp : x.causeDP = none) :
    Sect.Lawful true true free limit { x with state := y, count := n, settle := none } := by
  rcases hy with rfl | rfl | rfl <;>
    exact sect_lawful_of_active (fun hc => by cases hc) hcount hcause hdp rfl (fun _ he => by cases he) (fun hc => by cases hc)

theorem Sect.Lawful.countIn (h : x.Lawful true true free limit) (d : DP) : (x.countIn d).Lawful true true free limit := by
  have hkeep : ∀ y n, x.state ≠ .disturbed → x.state ≠ .settling → (y = .occupied ∨ y = .sweeping ∨ y = .restoring) →
      countFits y n → Sect.Lawful true true free limit { x with state := y, count := n } := by
    intro y n hd hs hy hn
    obtain ⟨hcause, hdp⟩ := h.no_cause hd
    have hlaw := sect_lawful_stopped (free := free) (limit := limit) x hy hn hcause hdp
    rwa [← h.stopped hs] at hlaw
  have hfits := h.count
  unfold Sect.countIn
  split
  case h_1 hs =>
    obtain ⟨hcause, hdp⟩ := h.no_cause (by rw [hs]; decide)
    exact sect_lawful_stopped x (.inl rfl) ⟨le_rfl, by decide⟩ hcause hdp
  case h_2 hs =>
    obtain ⟨hcause, hdp⟩ := h.no_cause (by rw [hs]; decide)
    exact sect_lawful_stopped x (.inl rfl) ⟨le_rfl, by decide⟩ hcause hdp
  case h_3 hs =>
    split
    case isTrue hlt =>
      have hlaw := hkeep .occupied (x.count + 1) (by rw [hs]; decide) (by rw [hs]; decide) (.inl rfl) ⟨Nat.le_add_left 1 _, hlt⟩
      rwa [← hs] at hlaw
    case isFalse => exact h.raise (by decide) rfl rfl true
  case h_4 hs =>
    split
    case isTrue hlt =>
      have hlaw := hkeep .sweeping (x.count + 1) (by rw [hs]; decide) (by rw [hs]; decide) (.inr (.inl rfl))
        ⟨Nat.le_add_left 1 _, hlt⟩
      rwa [← hs] at hlaw
    case isFalse => exact h.raise (by decide) rfl rfl true
  case h_5 hs => exact hkeep .sweeping 1 (by rw [hs]; decide) (by rw [hs]; decide) (.inr (.inl rfl)) ⟨le_rfl, by decide⟩
  case h_6 hs =>
    refine { h with unused := (fun hu => by cases hu), count := ?_ }
    rw [hs]
    exact Nat.min_le_right _ _

theorem Sect.Lawful.countOut (h : x.Lawful true true free limit) (d : DP) : (x.countOut d free).Lawful true true free limit := by
  have hless : ∀ y, x.state = y → (y = .occupied ∨ y = .sweeping) → 2 ≤ x.count →
      Sect.Lawful true true free limit { x with count := x.count - 1 } := by
    intro y hs hy hn
    have hle := countFits_le h.count
    refine { h with unused := (fun hu => by cases hu), count := ?_ }
    rw [hs]
    rcases hy with rfl | rfl <;> exact ⟨by simp only; omega, by simp only; omega⟩
  have hout : x.state ≠ .disturbed →
      Sect.Lawful true true free limit { x with state := .settling, count := 0, settle := startSettle free } := fun hd =>
    sect_lawful_settling x (h.no_cause hd).1 (h.no_cause hd).2
  unfold Sect.countOut
  split
  case h_1 | h_2 | h_5 => exact h.raise (by decide) rfl rfl true
  case h_3 hs =>
    split
    case isTrue hn => exact hless _ hs (.inl rfl) hn
    case isFalse => exact hout (by rw [hs]; decide)
  case h_4 hs =>
    split
    case isTrue hn => exact hless _ hs (.inr rfl) hn
    case isFalse => exact hout (by rw [hs]; decide)
  case h_6 hs =>
    refine { h with unused := (fun hu => by cases hu), count := ?_ }
    rw [hs]
    exact (Nat.sub_le _ _).trans (countFits_le h.count)

/-- A bounding head left FREE (R70, R71): what was CLEAR or counting down no longer is. -/
theorem Sect.Lawful.leaveFree (h : x.Lawful used counting free limit) : x.leaveFree.Lawful used counting false limit := by
  unfold Sect.leaveFree
  split
  case h_1 hs =>
    have hd : x.state ≠ .disturbed := by rw [hs]; decide
    obtain ⟨rfl, rfl⟩ := h.active hd
    obtain ⟨hcause, hdp⟩ := h.no_cause hd
    have hcount : x.count = 0 := by have := h.count; rwa [hs] at this
    exact sect_lawful_of_active (x := { x with state := .settling, settle := none }) (fun hc => by cases hc) hcount hcause hdp rfl
      (fun _ he => by cases he) (fun hc => by cases hc)
  case h_2 hs =>
    obtain ⟨rfl, rfl⟩ := h.active (by rw [hs]; decide)
    exact { h with
      unused := fun hu => by cases hu
      settle := by simp
      elapsed := fun _ he => by cases he
      clear := fun hc => by rw [hs] at hc; cases hc }
  all_goals
    next hs => exact h.of_view false (.inr ⟨by rw [hs]; decide, by rw [hs]; decide⟩)

/-- A bounding head became FREE (R72). -/
theorem Sect.Lawful.becomeFree (h : x.Lawful used counting free limit) {free' : Bool} (hfree : free = true → free' = true) :
    (x.becomeFree free').Lawful used counting free' limit := by
  unfold Sect.becomeFree
  split
  case isTrue hs =>
    obtain ⟨rfl, rfl⟩ := h.active (by rw [hs.1]; decide)
    exact { h with
      unused := fun hu => by cases hu
      settle := by rw [hs.1]; exact isSome_startSettle free'
      elapsed := fun _ he => startSettle_le limit he
      clear := fun hc => by rw [hs.1] at hc; cases hc }
  case isFalse hs =>
    by_cases hsettling : x.state = .settling
    · have hrun : x.settle.isSome = true := Option.isSome_iff_ne_none.mpr fun hn => hs ⟨hsettling, hn⟩
      have hold : free = true := by rw [h.settle, hsettling] at hrun; exact hrun
      exact h.of_view free' (.inl ((hfree hold).trans hold.symm))
    · by_cases hclear : x.state = .clear
      · exact h.of_view free' (.inl ((hfree (h.clear hclear)).trans (h.clear hclear).symm))
      · exact h.of_view free' (.inr ⟨hsettling, hclear⟩)

theorem Sect.Lawful.tick (h : x.Lawful used counting free limit) : (x.tick limit).Lawful used counting free limit :=
  { h with
    unused := fun hu => by rw [h.unused hu]; rfl
    settle := Option.isSome_map.trans h.settle
    elapsed := fun e he => by
      obtain ⟨n, _, rfl⟩ := Option.map_eq_some_iff.mp he
      exact Nat.min_le_right _ _ }

/-- A section whose timer runs may be taken to CLEAR: it is SETTLING with every bounding head FREE (R66). -/
theorem Sect.Lawful.provedClear (h : x.Lawful used counting free limit) (hrun : x.settle.isSome = true) :
    x.provedClear.Lawful used counting free limit := by
  obtain ⟨hsettling, hfree⟩ := Bool.and_eq_true_iff.mp (h.settle.symm.trans hrun)
  have hd : x.state ≠ .disturbed := by rw [of_decide_eq_true hsettling]; decide
  obtain ⟨rfl, rfl⟩ := h.active hd
  obtain ⟨hcause, hdp⟩ := h.no_cause hd
  exact sect_lawful_of_active (x := x.provedClear) (fun hc => by cases hc) rfl hcause hdp rfl (fun _ he => by cases he) fun _ => hfree

end Facts

/-! ### The law of the section records -/

theorem SectionLaw.of_keeps {s t : State} (i : KeepsImage s t) (k : KeepsSections s t) (h : SectionLaw s) : SectionLaw t := by
  refine sectionLaw_of_sects (by rw [i.inForce, i.mode]; exact h.force) fun j => ?_
  unfold State.SectLawful State.used State.viewFree State.settleTime
  rw [i.mode, i.inForce, i.image, i.bounding, k.view, k.sects]
  exact h.sect j

/-- A change of section records, the view and what the records rest on being the same. -/
theorem SectionLaw.changed {s t : State} (h : SectionLaw s) (i : KeepsImage s t) (hview : t.view = s.view)
    (hsects : ∀ k : SectNo, s.SectLawful k t.sects[k]) : SectionLaw t := by
  refine sectionLaw_of_sects (by rw [i.inForce, i.mode]; exact h.force) fun j => ?_
  unfold State.SectLawful State.used State.viewFree State.settleTime
  rw [i.mode, i.inForce, i.image, i.bounding, hview]
  exact hsects j

/-- A change of one section record. -/
theorem SectionLaw.changed_one {s t : State} (h : SectionLaw s) (i : KeepsImage s t) (hview : t.view = s.view) (k : SectNo)
    (hk : s.SectLawful k t.sects[k]) (hsects : ∀ j : SectNo, j ≠ k → t.sects[j] = s.sects[j]) : SectionLaw t := by
  refine h.changed i hview fun j => ?_
  by_cases hj : j = k
  · rw [hj]; exact hk
  · rw [hsects j hj]; exact h.sect j

theorem sectionLaw_of_reset {t : State} (hforce : t.inForce.isSome = t.mode.running) (h : ∀ k : SectNo, t.sects[k] = Sect.reset) :
    SectionLaw t :=
  sectionLaw_of_sects hforce fun k => by rw [h k]; exact sect_reset_lawful _ _ _ _

/-- With no image in force every section holds what power-on gives it (R60). -/
theorem SectionLaw.all_reset {s : State} (h : SectionLaw s) (hheld : s.mode.running = false) : s.inForce = none ∧
    ∀ k : SectNo, s.sects[k] = Sect.reset := by
  have hnone : s.inForce = none := Option.not_isSome_iff_eq_none.mp (by rw [h.force, hheld]; decide)
  refine ⟨hnone, fun k => h.unused k ?_⟩
  unfold State.used
  rw [hnone]
  rfl

/-- A held mode is left for a held mode with the section records as they stand. -/
theorem SectionLaw.stay_held {s t : State} (h : SectionLaw s) (hs : s.mode.running = false) (ht : t.mode.running = false)
    (hforce : t.inForce = none) (hsects : t.sects = s.sects) : SectionLaw t :=
  sectionLaw_of_reset (by rw [hforce, ht]; rfl) fun k => by rw [hsects]; exact (h.all_reset hs).2 k

theorem reset_get (k : SectNo) : (Vector.replicate 24 Sect.reset)[k] = Sect.reset := by simp

theorem SectionLaw.sectMove {s t : State} (m : SectMove s t) (h : SectionLaw s) : SectionLaw t := by
  have himage := m.keeps.1
  have hview := m.keeps.2.2.view
  cases m with
  | term d dir x hmode =>
    cases hu : s.used x.sect with
    | false => rw [applyTerm_of_unused d dir s x hu]; exact h
    | true =>
      have hlaw : s.SectLawful x.sect s.sects[x.sect] := h.sect x.sect
      unfold State.SectLawful at hlaw
      rw [hu, decide_eq_true hmode] at hlaw
      refine h.changed_one himage hview x.sect ?_ fun j hj => ?_ <;> rw [applyTerm_of_used d dir s x hu]
      · have hsect : (((s.setSect x.sect ((s.counted d dir x).touchHistory s.periodCounter)).setRecord x.sect none).asks
            (s.termAsks d dir x)).sects[x.sect] = (s.counted d dir x).touchHistory s.periodCounter := sects_setSect_same s _ _
        unfold State.SectLawful
        rw [hsect, hu, decide_eq_true hmode]
        refine Sect.Lawful.touchHistory ?_ s.periodCounter
        unfold State.counted
        split
        · exact hlaw.countIn d
        · exact hlaw.countOut d
      · exact sects_setSect_ne s x.sect j _ hj
  | settle k =>
    by_cases hdue : s.settleDue k = true
    · obtain ⟨e, hrun, _⟩ := (settleDue_iff s k).mp hdue
      have hget : ∀ j : SectNo, (s.takeSettle k).sects[j] = if j = k then s.sects[k].provedClear else s.sects[j] := by
        intro j
        rw [takeSettle_of_due s k hdue]
        exact tabulate_get _ j
      refine h.changed_one himage hview k ?_ fun j hj => ?_ <;> rw [hget]
      · rw [if_pos rfl]
        exact (h.sect k).provedClear (by rw [hrun]; rfl)
      · exact if_neg hj
    · rw [takeSettle_of_not_due s k hdue]; exact h
  | dropRecord k => exact h.changed himage hview fun j => by rw [dropRecord_eq]; exact h.sect j
  | clearRecord k => exact h.changed himage hview fun j => h.sect j
  | openRecord k => exact h.changed himage hview fun j => h.sect j
  | reset kind k hmode hused _ =>
    refine h.changed_one himage hview k ?_ fun j hj => ?_ <;> rw [performReset_eq]
    · unfold State.SectLawful
      rw [hused, decide_eq_true hmode]
      cases kind with
      | prep =>
        refine (sects_setSect_same s k _).symm ▸ ?_
        exact sect_lawful_stopped { s.sects[k] with cause := .none, causeDP := none } (.inr (.inr rfl)) rfl rfl rfl
      | direct =>
        refine (sects_setSect_same s k _).symm ▸ ?_
        exact sect_lawful_settling { s.sects[k] with cause := .none, causeDP := none } rfl rfl
    · exact sects_setSect_ne s k j _ hj

/-! ### A class taken into the view -/

theorem view_set_same (s : State) (d : DP) (c : HeadClass) : (s.view.set d c)[d] = c := by simp

theorem view_set_ne (s : State) (d e : DP) (c : HeadClass) (h : e ≠ d) : (s.view.set d c)[e] = s.view[e] := by
  simp only [Fin.getElem_fin]
  exact Vector.getElem_set_ne _ _ fun hc => h (Fin.ext hc.symm)

/-- The view of a section after a class is taken: the same where the head does not bound it. -/
theorem viewFree_set (s : State) (d : DP) (c : HeadClass) (k : SectNo) :
    (¬ d ∈ s.bounding[k] → State.viewFree { s with view := s.view.set d c } k = s.viewFree k) ∧
    (d ∈ s.bounding[k] → c ≠ .free → State.viewFree { s with view := s.view.set d c } k = false) ∧
    (c = .free → s.viewFree k = true → State.viewFree { s with view := s.view.set d c } k = true) := by
  unfold State.viewFree
  refine ⟨fun hd => ?_, fun hd hc => ?_, fun hc hall => ?_⟩
  · rw [Bool.eq_iff_iff, List.all_eq_true, List.all_eq_true]
    refine forall₂_congr fun e he => ?_
    have hne : e ≠ d := fun hed => hd (hed ▸ he)
    simp only [view_set_ne s d e c hne]
  · refine List.all_eq_false.mpr ⟨d, hd, ?_⟩
    simp only [view_set_same, decide_eq_true_eq]
    exact hc
  · refine List.all_eq_true.mpr fun e he => ?_
    by_cases hed : e = d
    · simp only [hed, view_set_same, decide_eq_true_eq]
      exact hc
    · simp only [view_set_ne s d e c hed]
      exact List.all_eq_true.mp hall e he

theorem SectionLaw.classTaken {s : State} (h : SectionLaw s) (d : DP) (c : HeadClass) (g : Head) :
    SectionLaw ((s.setHead d g).applyClass d c) := by
  obtain ⟨w, a, he, _⟩ := classTaken_frame s d c g
  rw [he]
  refine sectionLaw_of_sects h.force fun k => ?_
  obtain ⟨hout, hin, hfree⟩ := viewFree_set s d c k
  have hget : (tabulate fun k => State.classed { s with view := s.view.set d c } d c k s.sects[k])[k] =
      State.classed { s with view := s.view.set d c } d c k s.sects[k] := tabulate_get _ k
  change Sect.Lawful (s.used k) (decide (s.mode = .counting)) (State.viewFree { s with view := s.view.set d c } k)
    (s.settleTime k) (tabulate fun k => State.classed { s with view := s.view.set d c } d c k s.sects[k])[k]
  rw [hget]
  have hlaw : s.sects[k].Lawful (s.used k) (decide (s.mode = .counting)) (s.viewFree k) (s.settleTime k) := h.sect k
  by_cases hd : d ∈ s.bounding[k]
  · have hbounds : State.bounds { s with view := s.view.set d c } d k = true := decide_eq_true hd
    unfold State.classed
    rw [hbounds]
    cases c with
    | notFree => rw [hin hd (by decide)]; exact hlaw.leaveFree
    | free => exact hlaw.becomeFree (hfree rfl)
    | fault =>
      rw [hin hd (by decide), Bool.and_true]
      have hraised : (if s.used k then s.sects[k].raise .headFault (some d) else s.sects[k]).Lawful (s.used k)
          (decide (s.mode = .counting)) (s.viewFree k) (s.settleTime k) := hlaw.raise_if (by decide) rfl _
      have hstate : (if s.used k then s.sects[k].raise .headFault (some d) else s.sects[k]).state = .disturbed := by
        cases hu : s.used k with
        | true => exact (raise_state _ _ _).1
        | false => exact hlaw.disturbed_of_unused hu
      exact hraised.of_view false (.inr ⟨by rw [hstate]; decide, by rw [hstate]; decide⟩)
  · have hbounds : State.bounds { s with view := s.view.set d c } d k = false := decide_eq_false hd
    unfold State.classed
    rw [hbounds, hout hd, Bool.and_false]
    cases c <;> exact hlaw

/-! ### Moves from mode to mode -/

theorem SectionLaw.enterHalted {s : State} (c : HaltCause) (hmode : s.mode = .counting) (h : SectionLaw s) :
    SectionLaw (s.enterHalted c) := by
  rw [enterHalted_eq]
  refine sectionLaw_of_sects (h.force.trans (by rw [hmode]; rfl)) fun k => ?_
  have hget : (tabulate fun k => if s.used k then s.sects[k].raise .halt none else s.sects[k])[k] =
      if s.used k then s.sects[k].raise .halt none else s.sects[k] := tabulate_get _ k
  exact hget.symm ▸ (h.sect k).raise_if (by decide) rfl false

theorem SectionLaw.enterCounting {s : State} (l : SupLink) (h : SectionLaw s) (hmode : s.mode = .awaitEndorse) :
    SectionLaw (s.setEndorsed l true).enterCounting := by
  have hsame : (s.setEndorsed l true).enterCounting = { s.enterCounting with
      endorsed0 := (s.setEndorsed l true).endorsed0, endorsed1 := (s.setEndorsed l true).endorsed1 } := by cases l <;> rfl
  rw [hsame]
  refine sectionLaw_of_sects (h.force.trans (by rw [hmode]; rfl)) fun k => ?_
  have hget : s.enterCounting.sects[k] = if s.used k then
      { s.sects[k] with state := .disturbed, count := 0, cause := .start, causeDP := none, settle := none } else s.sects[k] :=
    tabulate_get _ k
  have hlaw : s.sects[k].Lawful (s.used k) (decide (s.mode = .counting)) (s.viewFree k) (s.settleTime k) := h.sect k
  change Sect.Lawful (s.used k) true (s.viewFree k) (s.settleTime k) s.enterCounting.sects[k]
  rw [hget]
  cases hu : s.used k with
  | true => exact sect_lawful_of_disturbed rfl (Nat.zero_le _) (fun hc => by cases hc) rfl rfl
  | false => rw [hu] at hlaw; exact hlaw.of_mode (hlaw.disturbed_of_unused rfl) true

theorem SectionLaw.stopCounting {s : State} (l : SupLink) (h : SectionLaw s) (hmode : s.mode = .counting) :
    SectionLaw (s.setEndorsed l false).stopCounting := by
  obtain ⟨a, he⟩ := stopCounting_eq (s.setEndorsed l false)
  rw [he]
  have hlaw : ∀ k, (if s.used k then s.sects[k].raise .notCounting none else s.sects[k]).Lawful (s.used k) false (s.viewFree k)
      (s.settleTime k) := fun k => (h.sect k).raise_if (by decide) rfl false
  have hget : ∀ k : SectNo, (tabulate fun k => if s.used k then s.sects[k].raise .notCounting none else s.sects[k])[k] =
      if s.used k then s.sects[k].raise .notCounting none else s.sects[k] := tabulate_get _
  cases l with
  | sl0 => exact sectionLaw_of_sects (h.force.trans (by rw [hmode]; rfl)) fun k => (hget k).symm ▸ hlaw k
  | sl1 => exact sectionLaw_of_sects (h.force.trans (by rw [hmode]; rfl)) fun k => (hget k).symm ▸ hlaw k

theorem SectionLaw.setEndorsed {s : State} (h : SectionLaw s) (l : SupLink) (b : Bool) : SectionLaw (s.setEndorsed l b) := by
  cases l <;> exact { h with }

theorem SectionLaw.mode {s t : State} (m : ModeMove s t) (h : SectionLaw s) : SectionLaw t := by
  cases m with
  | halt c hmode => exact h.enterHalted c hmode
  | softHalt hmode =>
    exact SectionLaw.enterHalted (s := { s with softErrors := s.softErrors + 1 }) .softLimit hmode { h with }
  | start =>
    obtain he | ⟨_, x, _, _, he⟩ | ⟨hmode, he⟩ := completeStart_cases s <;> rw [he]
    · exact h
    · exact sectionLaw_of_reset rfl reset_get
    · exact h.stay_held (by rw [hmode]; rfl) rfl rfl rfl
  | clearing =>
    obtain he | ⟨hmode, _, he⟩ := completeClearing_cases s <;> rw [he]
    · exact h
    · have hheld : s.mode.running = false := by rw [hmode]; rfl
      exact h.stay_held hheld hheld (h.all_reset hheld).1 rfl
  | verify =>
    obtain he | ⟨_, _, he⟩ | ⟨hmode, o, he⟩ := completeVerify_cases s <;> rw [he]
    · exact h
    · exact sectionLaw_of_reset rfl reset_get
    · exact h.stay_held (by rw [hmode]; rfl) rfl rfl rfl
  | abandon =>
    obtain ⟨_, he⟩ | ⟨hmode, he⟩ := abandonLoad_cases s <;> rw [he]
    · exact h
    · have hheld : s.mode.running = false := by rw [hmode]; rfl
      exact h.stay_held hheld rfl (h.all_reset hheld).1 rfl
  | beginLoad => rw [beginLoad_eq]; exact sectionLaw_of_reset rfl reset_get
  | restart => rw [restart_eq]; exact sectionLaw_of_reset rfl reset_get
  | endorse l g =>
    obtain he | ⟨_, _, _, he⟩ | ⟨hmode, _, _, he⟩ := endorse_cases l g s <;> rw [he]
    · exact h
    · exact h.setEndorsed l true
    · exact h.enterCounting l hmode
  | unendorse l => exact h.setEndorsed l false
  | withdraw l hmode => exact h.stopCounting l hmode
  | powerOn => exact sectionLaw_of_reset rfl reset_get

theorem SectionLaw.load {s t : State} (hmode : s.mode = .loading) (m : LoadMove s t) (h : SectionLaw s) : SectionLaw t := by
  have hheld : s.mode.running = false := by rw [hmode]; rfl
  have hsects := m.keeps.2.1.sects
  have hforce : t.inForce = none := by
    obtain ⟨_, _, _, _, _, _, rfl⟩ := m.frame
    exact (h.all_reset hheld).1
  have hnext : t.mode.running = false := by
    cases m with
    | index table index => unfold State.setIndex; split <;> [exact hheld; (split <;> exact hheld)]
    | map n terms => unfold State.writeMap; split <;> [(split <;> exact hheld); exact hheld; exact hheld]
    | sect a b c d => unfold State.writeSect; split <;> exact hheld
    | globals g p q => exact hheld
    | endLoad => rfl
  exact h.stay_held hheld hnext hforce hsects

theorem SectionLaw.move (s t : State) (m : Move s t) (h : SectionLaw s) : SectionLaw t := by
  cases m with
  | link m => exact h.of_keeps m.keeps.image m.keeps.sections
  | aside m => exact h.of_keeps m.keeps.image m.keeps.sections
  | head m => exact h.of_keeps m.keeps.1 m.keeps.2.2
  | sect m => exact h.sectMove m
  | classTaken d c rest => exact h.classTaken d c _
  | integrity m => exact h.of_keeps m.keeps.1 m.keeps.2.1
  | load hmode _ m => exact h.load hmode m
  | mode m => exact h.mode m
  | sample inputs => exact h.of_keeps (sample_keeps s inputs).1 (sample_keeps s inputs).2.2
  | tick => exact h.changed (tick_keeps s).1 rfl fun k => by rw [tick_sects]; exact (h.sect k).tick

/-- Settles O54: every move keeps the law of each section record; CLEAR is entered by a running settle timer alone, and left when a bounding
head leaves FREE. -/
theorem sectionLawKept : Obligations.SectionLawKept := step_keeps SectionLaw.move

end Sys2Proof.Machine
end

section
/-! PROOFS. The law of the heads and of the Counting Engine's view of them is kept by every step (R3, R6, R9, R10, R14, R16, R19, R22, R25, R62). -/

namespace Sys2Proof.Machine

/-! ### One head and the view of it -/

/-- The law of one head with the class that the Counting Engine's view gives it. -/
structure Head.Good (running : Bool) (qual limit steps : Nat) (c : HeadClass) (h : Head) : Prop where
  lawful : h.Lawful running qual limit steps
  view : classAfter c h.outbox = h.state.cls

theorem classAfter_append (c : HeadClass) (xs : List HandedOn) (c' : HeadClass) : classAfter c (xs ++ [.classChange c']) = c' := by
  simp [classAfter]

theorem classAfter_append_axle (c : HeadClass) (xs : List HandedOn) (e : AxleEvent) (c' : HeadClass) :
    classAfter c (xs ++ [.axle e, .classChange c']) = c' := by
  simp [classAfter]

/-- A head record as an entry into FAULT leaves it (R16). -/
def Head.faulted (c : FaultCause) (h : Head) : Head :=
  { h with
    state := .fault
    lastCause := c
    passageStart := none
    lastAxle := none
    recovery := 0
    outbox := h.outbox ++ [.classChange .fault] }

theorem heads_enterFault_eq (s : State) (d : DP) (c : FaultCause) : (s.enterFault d c).heads[d] = s.heads[d].faulted c :=
  heads_enterFault s d c

section Facts

variable {running : Bool} {qual limit steps : Nat} {c : HeadClass} {h : Head}

/-- An entry into FAULT asks of the record before it but the bounds of its bucket and its candidate counts. -/
theorem good_faulted (cause : FaultCause) (hbucket : h.bucket ≤ limit) (hcand : h.cand1 ≤ qual ∧ h.cand2 ≤ qual) :
    (h.faulted cause).Good true qual limit steps c where
  lawful := {
    pair := fun p hp => by cases hp
    held := fun hr => by cases hr
    bucket := ⟨hbucket, fun hf => (by cases hf), fun hu => (by cases hu)⟩
    passage := rfl
    lastAxle := fun _ => rfl
    candidates := hcand
    recovery := ⟨Nat.zero_le _, fun _ => rfl⟩
    quiet1 := ⟨fun _ => Nat.zero_le _, fun _ => Nat.zero_le _⟩
    quiet2 := ⟨fun _ => Nat.zero_le _, fun _ => Nat.zero_le _⟩ }
  view := classAfter_append c h.outbox .fault

/-- In FAULT the fault input takes the cause and stops the recovery timer (R18). -/
theorem Head.Good.faultAgain (g : h.Good running qual limit steps c) (cause : FaultCause) :
    Head.Good running qual limit steps c { h with lastCause := cause, recovery := 0 } where
  lawful := {
    pair := g.lawful.pair
    held := fun hr => ⟨(g.lawful.held hr).1, (g.lawful.held hr).2.1, rfl⟩
    bucket := g.lawful.bucket
    passage := g.lawful.passage
    lastAxle := g.lawful.lastAxle
    candidates := g.lawful.candidates
    recovery := ⟨Nat.zero_le _, fun _ => rfl⟩
    quiet1 := ⟨fun _ => Nat.zero_le _, fun _ => Nat.zero_le _⟩
    quiet2 := ⟨fun _ => Nat.zero_le _, fun _ => Nat.zero_le _⟩ }
  view := g.view

theorem clearGlitches_cand (h : Head) :
    h.clearGlitches.cand1 ≤ h.cand1 ∧ h.clearGlitches.cand2 ≤ h.cand2 ∧
      (h.raw1 ≠ h.q1 → h.clearGlitches.cand1 = h.cand1) ∧ (h.raw2 ≠ h.q2 → h.clearGlitches.cand2 = h.cand2) := by
  unfold Head.clearGlitches Head.glitch1 Head.glitch2
  refine ⟨?_, ?_, fun hr => ?_, fun hr => ?_⟩
  · simp only; split <;> omega
  · simp only; split <;> omega
  · simp [hr]
  · simp [hr]

theorem Head.Good.clearGlitches (g : h.Good running qual limit steps c) : h.clearGlitches.Good running qual limit steps c := by
  obtain ⟨hle1, hle2, hsame1, hsame2⟩ := clearGlitches_cand h
  exact {
    lawful := {
      pair := g.lawful.pair
      held := g.lawful.held
      bucket := g.lawful.bucket
      passage := g.lawful.passage
      lastAxle := g.lawful.lastAxle
      candidates := ⟨hle1.trans g.lawful.candidates.1, hle2.trans g.lawful.candidates.2⟩
      recovery := g.lawful.recovery
      quiet1 := ⟨fun hr => (g.lawful.quiet1.1 hr).trans (hsame1 hr).ge, g.lawful.quiet1.2⟩
      quiet2 := ⟨fun hr => (g.lawful.quiet2.1 hr).trans (hsame2 hr).ge, g.lawful.quiet2.2⟩ }
    view := g.view }

theorem not_follows_of_unknown {x : HeadState} (h : x = .unknown) : x.follows = false := by rw [h]; rfl

/-- A bucket that stays below its limit, in a head that follows its pair. -/
theorem Head.Good.withBucket (g : h.Good running qual limit steps c) (n : Nat) (hfollows : h.state.follows = true) (hn : n < limit) :
    Head.Good running qual limit steps c { h with bucket := n } :=
  ⟨{ g.lawful with
      bucket := ⟨hn.le, fun _ => hn, fun hu => by rw [show h.state = .unknown from hu] at hfollows; cases hfollows⟩ }, g.view⟩

theorem Head.Good.drain (g : h.Good running qual limit steps c) : h.drain.Good running qual limit steps c := by
  unfold Head.drain
  split
  case isTrue hf => exact g.withBucket _ hf ((Nat.sub_le _ _).trans_lt (g.lawful.bucket.2.1 hf))
  case isFalse => exact g

theorem requalify_cand (h : Head) (qual : Nat) : (h.requalify qual).cand1 ≤ h.cand1 ∧ (h.requalify qual).cand2 ≤ h.cand2 := by
  unfold Head.requalify
  constructor <;> simp only <;> split <;> omega

/-- What a change of levels makes of each channel (R3). -/
theorem requalify_channel1 (h : Head) (qual : Nat) :
    (h.changed1 qual = true ∧ h.raw1 ≠ h.q1 ∧ (h.requalify qual).q1 = h.raw1 ∧ (h.requalify qual).cand1 = 0) ∨
    (h.changed1 qual = false ∧ (h.requalify qual).q1 = h.q1 ∧ (h.requalify qual).cand1 = h.cand1) := by
  cases hc : h.changed1 qual with
  | true =>
    have hr : h.raw1 ≠ h.q1 := bne_iff_ne.mp (Bool.and_eq_true_iff.mp hc).1
    exact .inl ⟨rfl, hr, by simp [Head.requalify, hc]⟩
  | false => exact .inr ⟨rfl, by simp [Head.requalify, hc]⟩

theorem requalify_channel2 (h : Head) (qual : Nat) :
    (h.changed2 qual = true ∧ h.raw2 ≠ h.q2 ∧ (h.requalify qual).q2 = h.raw2 ∧ (h.requalify qual).cand2 = 0) ∨
    (h.changed2 qual = false ∧ (h.requalify qual).q2 = h.q2 ∧ (h.requalify qual).cand2 = h.cand2) := by
  cases hc : h.changed2 qual with
  | true =>
    have hr : h.raw2 ≠ h.q2 := bne_iff_ne.mp (Bool.and_eq_true_iff.mp hc).1
    exact .inl ⟨rfl, hr, by simp [Head.requalify, hc]⟩
  | false => exact .inr ⟨rfl, by simp [Head.requalify, hc]⟩

theorem pair_of_not_follows {x : HeadState} (h : x.follows = false) : x.pair = none := by
  cases x <;> first | rfl | cases h

/-- Outside the states that follow the pair a change of levels touches nothing else (R4, R17, R20). -/
theorem Head.Good.requalify (g : h.Good running qual limit steps c) (hqual : qual ≤ 31) (hstate : h.state.follows = false) :
    (h.requalify qual).Good running qual limit steps c := by
  obtain ⟨hle1, hle2⟩ := requalify_cand h qual
  refine ⟨{
    pair := fun p hp => by rw [pair_of_not_follows (x := (h.requalify qual).state) hstate] at hp; cases hp
    held := g.lawful.held
    bucket := g.lawful.bucket
    passage := g.lawful.passage
    lastAxle := g.lawful.lastAxle
    candidates := ⟨hle1.trans g.lawful.candidates.1, hle2.trans g.lawful.candidates.2⟩
    recovery := g.lawful.recovery
    quiet1 := ?_
    quiet2 := ?_ }, g.view⟩
  · obtain ⟨_, hr, hq, _⟩ | ⟨_, hq, hcand⟩ := requalify_channel1 h qual
    · refine ⟨fun hn => absurd hq.symm hn, fun _ => ?_⟩
      exact ((g.lawful.quiet1.1 hr).trans g.lawful.candidates.1).trans hqual
    · rw [hq, hcand]; exact g.lawful.quiet1
  · obtain ⟨_, hr, hq, _⟩ | ⟨_, hq, hcand⟩ := requalify_channel2 h qual
    · refine ⟨fun hn => absurd hq.symm hn, fun _ => ?_⟩
      exact ((g.lawful.quiet2.1 hr).trans g.lawful.candidates.2).trans hqual
    · rw [hq, hcand]; exact g.lawful.quiet2

/-- A head that follows its pair moves with it: the new state goes with the new pair, the passage with the new state, and what is handed on
with the new class (R9 to R12, R14, R22). -/
theorem Head.Good.moved (g : h.Good true qual limit steps c) (hfollows : h.state.follows = true) {x : HeadState}
    (hx : x.follows = true) (hpair : x.pair = some ((h.requalify qual).q1, (h.requalify qual).q2)) {p a : Option Nat}
    (hp : p.isSome = x.inPassage) {out : List HandedOn} (hout : classAfter c out = x.cls) :
    Head.Good true qual limit steps c { h.requalify qual with state := x, passageStart := p, lastAxle := a, outbox := out } := by
  obtain ⟨hle1, hle2⟩ := requalify_cand h qual
  have hstopped : h.recovery = 0 := g.lawful.recovery.2 hfollows
  exact {
    lawful := {
      pair := fun q hq => Option.some.inj (hpair.symm.trans hq)
      held := fun hr => by cases hr
      bucket := ⟨g.lawful.bucket.1, fun _ => g.lawful.bucket.2.1 hfollows, fun hu => by
        rw [show x = .unknown from hu] at hx; cases hx⟩
      passage := hp
      lastAxle := fun hf => by rw [hx] at hf; cases hf
      candidates := ⟨hle1.trans g.lawful.candidates.1, hle2.trans g.lawful.candidates.2⟩
      recovery := ⟨g.lawful.recovery.1, fun _ => hstopped⟩
      quiet1 := ⟨fun _ => hstopped.trans_le (Nat.zero_le _), fun _ => hstopped.trans_le (Nat.zero_le _)⟩
      quiet2 := ⟨fun _ => hstopped.trans_le (Nat.zero_le _), fun _ => hstopped.trans_le (Nat.zero_le _)⟩ }
    view := hout }

/-- A recovery timer that has run for RECOVERY seconds has run with both channels qualified free (R19, R20). -/
theorem Head.Good.recovered (g : h.Good running qual limit steps c) (hsteps : 31 < steps) (hlimit : 0 < limit)
    (hstate : h.state.follows = false) (hdue : steps ≤ h.recovery) :
    Head.Good true qual limit steps c
      { h with state := .free, bucket := 0, recovery := 0, outbox := h.outbox ++ [.classChange .free] } := by
  have hfree1 : h.q1 = false := Bool.eq_false_iff.mpr fun hq => by have := g.lawful.quiet1.2 hq; omega
  have hfree2 : h.q2 = false := Bool.eq_false_iff.mpr fun hq => by have := g.lawful.quiet2.2 hq; omega
  have hpassage : h.passageStart.isSome = false := g.lawful.passage.trans (by unfold HeadState.inPassage; rw [hstate]; rfl)
  exact {
    lawful := {
      pair := fun p hp => by rw [← Option.some.inj hp, hfree1, hfree2]
      held := fun hr => by cases hr
      bucket := ⟨Nat.zero_le _, fun _ => hlimit, fun _ => rfl⟩
      passage := hpassage
      lastAxle := fun hf => by cases hf
      candidates := g.lawful.candidates
      recovery := ⟨Nat.zero_le _, fun _ => rfl⟩
      quiet1 := ⟨fun _ => Nat.zero_le _, fun _ => Nat.zero_le _⟩
      quiet2 := ⟨fun _ => Nat.zero_le _, fun _ => Nat.zero_le _⟩ }
    view := classAfter_append c h.outbox .free }

theorem keepBelow_le (qual n : Nat) : keepBelow qual n ≤ qual := by
  unfold keepBelow; split <;> omega

/-- A head put into UNKNOWN is lawful in every mode, with the view at not free (R25, R26, R62). -/
theorem good_toUnknown (h : Head) (running : Bool) (qual limit steps : Nat) (cause : FaultCause) :
    Head.Good running qual limit steps .notFree { h.toUnknown qual with lastCause := cause } where
  lawful := {
    pair := fun p hp => by cases hp
    held := fun _ => ⟨rfl, rfl, rfl⟩
    bucket := ⟨Nat.zero_le _, fun hf => (by cases hf), fun _ => rfl⟩
    passage := rfl
    lastAxle := fun _ => rfl
    candidates := ⟨keepBelow_le _ _, keepBelow_le _ _⟩
    recovery := ⟨Nat.zero_le _, fun _ => rfl⟩
    quiet1 := ⟨fun _ => Nat.zero_le _, fun _ => Nat.zero_le _⟩
    quiet2 := ⟨fun _ => Nat.zero_le _, fun _ => Nat.zero_le _⟩ }
  view := rfl

/-- In a held mode a head is in UNKNOWN with nothing handed on; the limits of the image do not matter to it, nor does the view. -/
theorem Head.Good.held (g : h.Good false qual limit steps c) (limit' steps' : Nat) :
    h.Good false qual limit' steps' .notFree := by
  obtain ⟨hstate, hout, hrec⟩ := g.lawful.held rfl
  exact {
    lawful := { g.lawful with
      bucket := ⟨(g.lawful.bucket.2.2 hstate).trans_le (Nat.zero_le _), fun hf => (by rw [hstate] at hf; cases hf),
        g.lawful.bucket.2.2⟩
      recovery := ⟨hrec.trans_le (Nat.zero_le _), g.lawful.recovery.2⟩ }
    view := by rw [hout, hstate]; rfl }

/-- A sample taken of a settled head (R2, R3, R19, R20). -/
theorem Head.Good.sample (g : h.Good running qual limit steps c) (hqual : 1 ≤ qual) (hsettled : h.Settled qual) (x : Sample) :
    (h.sample running steps x).Good running qual limit steps c := by
  obtain ⟨hlt1, hlt2, _, _⟩ := hsettled
  have hnext : ∀ (raw q : Bool) (n : Nat), (n < qual ∨ n = 0) → nextCandidate raw q n ≤ qual := by
    intro raw q n hn
    unfold nextCandidate
    split <;> omega
  have hrec : (h.sample running steps x).recovery = 0 ∨ ((h.sample running steps x).recovery = h.recovery ∧ h.recovery = 0) ∨
      (h.quiet x = true ∧ (h.sample running steps x).recovery = min (h.recovery + 1) steps ∧ h.state.follows = false ∧
        running = true) := by
    cases hrun : running with
    | false =>
      have hzero := (g.lawful.held hrun).2.2
      exact .inr (.inl ⟨by simp [Head.sample], hzero⟩)
    | true =>
      cases hrecovers : h.state.recovers with
      | false =>
        have hfollows : h.state.follows = true := by revert hrecovers; cases h.state <;> decide
        exact .inr (.inl ⟨by simp [Head.sample, hrecovers], g.lawful.recovery.2 hfollows⟩)
      | true =>
        have hfollows : h.state.follows = false := by revert hrecovers; cases h.state <;> decide
        cases hq : h.quiet x with
        | false => exact .inl (by simp [Head.sample, hrecovers, hq])
        | true => exact .inr (.inr ⟨rfl, by simp [Head.sample, hrecovers, hq], hfollows, rfl⟩)
  have hquiet : h.quiet x = true → h.q1 = false ∧ h.q2 = false ∧ x.ch1 = h.raw1 ∧ x.ch2 = h.raw2 := by
    unfold Head.quiet
    simp only [Bool.and_eq_true, Bool.not_eq_true', beq_iff_eq]
    tauto
  refine ⟨{
    pair := g.lawful.pair
    held := fun hr => ?_
    bucket := g.lawful.bucket
    passage := g.lawful.passage
    lastAxle := g.lawful.lastAxle
    candidates := ⟨hnext _ _ _ hlt1, hnext _ _ _ hlt2⟩
    recovery := ?_
    quiet1 := ?_
    quiet2 := ?_ }, g.view⟩
  · obtain ⟨hstate, hout, hzero⟩ := g.lawful.held hr
    refine ⟨hstate, hout, ?_⟩
    obtain hz | ⟨he, hz⟩ | ⟨_, _, _, hrun⟩ := hrec
    · exact hz
    · exact he.trans hz
    · rw [hr] at hrun; cases hrun
  · obtain hz | ⟨he, hz⟩ | ⟨_, he, hfollows, _⟩ := hrec
    · exact ⟨hz.trans_le (Nat.zero_le _), fun _ => hz⟩
    · exact ⟨(he.trans hz).trans_le (Nat.zero_le _), fun _ => he.trans hz⟩
    · refine ⟨he.trans_le (Nat.min_le_right _ _), fun hf => ?_⟩
      rw [show h.state.follows = true from hf] at hfollows; cases hfollows
  · obtain hz | ⟨he, hz⟩ | ⟨hq, he, _, _⟩ := hrec
    · exact ⟨fun _ => hz.trans_le (Nat.zero_le _), fun _ => hz.trans_le (Nat.zero_le _)⟩
    · exact ⟨fun _ => (he.trans hz).trans_le (Nat.zero_le _), fun _ => (he.trans hz).trans_le (Nat.zero_le _)⟩
    · obtain ⟨hq1, _, hch1, _⟩ := hquiet hq
      refine ⟨fun hne => ?_, fun hq1' => ?_⟩
      · have hold := g.lawful.quiet1.1 (fun hr => hne (hch1.trans hr))
        have hcand : (h.sample running steps x).cand1 = h.cand1 + 1 := if_neg hne
        rw [he, hcand]
        omega
      · rw [show (h.sample running steps x).q1 = h.q1 from rfl, hq1] at hq1'; cases hq1'
  · obtain hz | ⟨he, hz⟩ | ⟨hq, he, _, _⟩ := hrec
    · exact ⟨fun _ => hz.trans_le (Nat.zero_le _), fun _ => hz.trans_le (Nat.zero_le _)⟩
    · exact ⟨fun _ => (he.trans hz).trans_le (Nat.zero_le _), fun _ => (he.trans hz).trans_le (Nat.zero_le _)⟩
    · obtain ⟨_, hq2, _, hch2⟩ := hquiet hq
      refine ⟨fun hne => ?_, fun hq2' => ?_⟩
      · have hold := g.lawful.quiet2.1 (fun hr => hne (hch2.trans hr))
        have hcand : (h.sample running steps x).cand2 = h.cand2 + 1 := if_neg hne
        rw [he, hcand]
        omega
      · rw [show (h.sample running steps x).q2 = h.q2 from rfl, hq2] at hq2'; cases hq2'

end Facts

/-! ### The law, head by head -/

/-- The law of a head record in a state. -/
def State.HeadGood (s : State) (d : DP) (h : Head) : Prop :=
  h.Good s.mode.running s.qual s.image.globals.glitchLimit s.recoverySteps s.view[d]

theorem HeadLaw.good {s : State} (h : HeadLaw s) (d : DP) : s.HeadGood d s.heads[d] := ⟨h.head d, h.view d⟩

theorem headLaw_of_good {s : State} (hglobals : s.image.globals.clamp = s.image.globals)
    (hstored : ∀ x, s.store = some x → x.image.globals.clamp = x.image.globals) (h : ∀ d, s.HeadGood d s.heads[d]) : HeadLaw s where
  globals := hglobals
  stored := hstored
  head := fun d => (h d).lawful
  view := fun d => (h d).view

/-- What the ranges of R144 give of the values a head reads. -/
theorem clamp_bounds {g : Globals} (h : g.clamp = g) :
    (1 ≤ g.qual ∧ g.qual ≤ 31) ∧ 2 ≤ g.glitchLimit ∧ 1 ≤ g.recovery := by
  have hq : clampTo 1 31 g.qual = g.qual := congrArg Globals.qual h
  have hl : clampTo 2 31 g.glitchLimit = g.glitchLimit := congrArg Globals.glitchLimit h
  have hr : clampTo 1 30 g.recovery = g.recovery := congrArg Globals.recovery h
  unfold clampTo at hq hl hr
  omega

theorem HeadLaw.bounds {s : State} (h : HeadLaw s) :
    (1 ≤ s.qual ∧ s.qual ≤ 31) ∧ 0 < s.image.globals.glitchLimit ∧ 31 < s.recoverySteps := by
  obtain ⟨hqual, hlimit, hrec⟩ := clamp_bounds h.globals
  refine ⟨?_, by omega, ?_⟩
  · unfold State.qual
    split
    · exact hqual
    · exact ⟨by decide, by decide⟩
  · unfold State.recoverySteps
    omega

theorem HeadLaw.of_keeps {s t : State} (i : KeepsImage s t) (k : KeepsHeads s t) (h : HeadLaw s) : HeadLaw t := by
  refine headLaw_of_good (by rw [i.image]; exact h.globals) (by rw [i.store]; exact h.stored) fun d => ?_
  unfold State.HeadGood State.qual State.recoverySteps
  rw [i.mode, i.image, k.heads, k.view]
  exact h.good d

/-- An operation on one head that leaves its record good. -/
theorem HeadLaw.onHead {s t : State} {d : DP} (h : HeadLaw s) (hon : OnHead d s t) (hd : s.HeadGood d t.heads[d]) : HeadLaw t := by
  have hothers := hon.heads_ne
  obtain ⟨g, a, rfl⟩ := hon
  refine headLaw_of_good h.globals h.stored fun e => ?_
  by_cases he : e = d
  · rw [he]; exact hd
  · rw [hothers e he]; exact h.good e

theorem HeadLaw.setHead {s : State} {d : DP} (h : HeadLaw s) {g : Head} (hg : s.HeadGood d g) : HeadLaw (s.setHead d g) :=
  h.onHead (OnHead.set d s g) (by rw [heads_setHead_same]; exact hg)

/-- An entry into FAULT of a head whose record is about to be replaced (R16). -/
theorem HeadLaw.setFault {s : State} {d : DP} (h : HeadLaw s) (hrun : s.mode.running = true) (g : Head) (cause : FaultCause)
    (hbucket : g.bucket ≤ s.image.globals.glitchLimit) (hcand : g.cand1 ≤ s.qual ∧ g.cand2 ≤ s.qual) :
    HeadLaw ((s.setHead d g).enterFault d cause) := by
  refine h.onHead ((OnHead.set d s g).trans (onHead_enterFault _ d cause)) ?_
  rw [heads_enterFault_eq, heads_setHead_same]
  unfold State.HeadGood
  rw [hrun]
  exact good_faulted cause hbucket hcand

theorem HeadLaw.enterFault {s : State} {d : DP} (h : HeadLaw s) (hrun : s.mode.running = true) (cause : FaultCause) :
    HeadLaw (s.enterFault d cause) := by
  have hset := h.setFault (d := d) hrun s.heads[d] cause (h.good d).lawful.bucket.1 (h.good d).lawful.candidates
  rwa [setHead_self] at hset

theorem HeadLaw.takeFaultInput {s : State} (h : HeadLaw s) (d : DP) : HeadLaw (s.takeFaultInput d) := by
  obtain ⟨_, he⟩ | ⟨_, _, _, he⟩ | ⟨hrun, _, _, he⟩ := takeFaultInput_cases s d <;> rw [he]
  · exact h
  · exact h.setHead ((h.good d).faultAgain .frontEnd)
  · exact h.enterFault hrun .frontEnd

theorem HeadLaw.takeGlitch {s : State} (h : HeadLaw s) (d : DP) : HeadLaw (s.takeGlitch d) := by
  by_cases hnone : s.heads[d].glitches = 0
  · rw [takeGlitch_of_none s d hnone]; exact h
  · have hinput := h.takeFaultInput d
    unfold State.takeGlitch
    rw [if_neg hnone]
    simp only
    generalize s.takeFaultInput d = t at hinput
    have hgood := (hinput.good d).clearGlitches
    split
    case isTrue hact =>
      obtain ⟨hrun, hfollows⟩ := Bool.and_eq_true_iff.mp hact
      split
      case isTrue => exact hinput.setFault hrun _ .interference (Nat.min_le_right _ _) hgood.lawful.candidates
      case isFalse hroom => exact hinput.setHead (hgood.withBucket _ hfollows (Nat.lt_of_not_le hroom))
    case isFalse => exact hinput.setHead hgood

/-- The new level of a channel that has changed is the other one. -/
theorem level_flipped {raw q : Bool} (h : raw ≠ q) : raw = !q := by
  revert h; cases raw <;> cases q <;> decide

/-- What the single changes of a head that follows its pair come to (R10 to R12, R14): a departure into a passage, a move within one, a
withdrawal, or a counting return. -/
inductive State.Follows (s : State) (d : DP) : State → Prop
  | depart (x : HeadState) : x.inPassage = true → x.pair = some (s.heads[d].q1, s.heads[d].q2) → Follows s d (s.depart d x)
  | move (x : HeadState) : s.heads[d].state.inPassage = true → x.inPassage = true →
      x.pair = some (s.heads[d].q1, s.heads[d].q2) → Follows s d (s.moveTo d x)
  | withdraw : HeadState.free.pair = some (s.heads[d].q1, s.heads[d].q2) → Follows s d (s.withdrawHead d)
  | count (dir : Dir) : HeadState.free.pair = some (s.heads[d].q1, s.heads[d].q2) → Follows s d (s.countingReturn d dir)

/-- A state that follows its pair has a row of its table for either single change of that pair. -/
theorem followPair_follows (s : State) (d : DP) (hfollows : s.heads[d].state.follows = true) (p : Bool × Bool)
    (hp : s.heads[d].state.pair = some p)
    (hflip : (s.heads[d].q1 = !p.1 ∧ s.heads[d].q2 = p.2) ∨ (s.heads[d].q1 = p.1 ∧ s.heads[d].q2 = !p.2)) :
    s.Follows d (s.followPair d) := by
  cases hs : s.heads[d].state with
  | unknown | fault => rw [hs] at hfollows; cases hfollows
  | free | n1 | n2 | n3 | r2 | r3 | r4 =>
    rw [hs] at hp
    cases hp
    rcases hflip with ⟨h1, h2⟩ | ⟨h1, h2⟩
    all_goals
      unfold State.followPair
      rw [hs, h1, h2]
      first
        | exact .depart _ rfl (by rw [h1, h2]; rfl)
        | exact .move _ (by rw [hs]; rfl) rfl (by rw [h1, h2]; rfl)
        | exact .withdraw (by rw [h1, h2]; rfl)
        | exact .count _ (by rw [h1, h2]; rfl)

theorem inPassage_iff (x : HeadState) (h : x.inPassage = true) : x.follows = true ∧ x.cls = .notFree := by
  revert h; cases x <;> decide

/-- A single qualified change flips one level of the pair. -/
theorem requalify_flips {h : Head} {qual : Nat} (hone : (h.changed1 qual != h.changed2 qual) = true) :
    ((h.requalify qual).q1 = !h.q1 ∧ (h.requalify qual).q2 = h.q2) ∨
      ((h.requalify qual).q1 = h.q1 ∧ (h.requalify qual).q2 = !h.q2) := by
  obtain ⟨hc1, hr1, hq1, _⟩ | ⟨hc1, hq1, _⟩ := requalify_channel1 h qual <;>
    obtain ⟨hc2, hr2, hq2, _⟩ | ⟨hc2, hq2, _⟩ := requalify_channel2 h qual
  · rw [hc1, hc2] at hone; cases hone
  · exact .inl ⟨hq1.trans (level_flipped hr1), hq2⟩
  · exact .inr ⟨hq1, hq2.trans (level_flipped hr2)⟩
  · rw [hc1, hc2] at hone; cases hone

/-- A single qualified change keeps the law, whichever row of the table applies. -/
theorem HeadLaw.followPair {s : State} {d : DP} (h : HeadLaw s) (hrun : s.mode.running = true)
    (hfollows : s.heads[d].state.follows = true) (hone : (s.heads[d].changed1 s.qual != s.heads[d].changed2 s.qual) = true) :
    HeadLaw ((s.setHead d (s.heads[d].requalify s.qual)).followPair d) := by
  have hgood : Head.Good true s.qual s.image.globals.glitchLimit s.recoverySteps s.view[d] s.heads[d] := by
    rw [← hrun]; exact h.good d
  have hset : ∀ g : Head, Head.Good true s.qual s.image.globals.glitchLimit s.recoverySteps s.view[d] g →
      HeadLaw ((s.setHead d (s.heads[d].requalify s.qual)).setHead d g) := by
    intro g hg
    rw [setHead_setHead]
    refine h.setHead ?_
    unfold State.HeadGood
    rw [hrun]
    exact hg
  have hfault : HeadLaw ((s.setHead d (s.heads[d].requalify s.qual)).enterFault d .tooFast) := by
    obtain ⟨hle1, hle2⟩ := requalify_cand s.heads[d] s.qual
    exact h.setFault hrun _ .tooFast hgood.lawful.bucket.1
      ⟨hle1.trans hgood.lawful.candidates.1, hle2.trans hgood.lawful.candidates.2⟩
  have hrow : (s.setHead d (s.heads[d].requalify s.qual)).Follows d
      ((s.setHead d (s.heads[d].requalify s.qual)).followPair d) := by
    obtain ⟨p, hp⟩ : ∃ p, s.heads[d].state.pair = some p := by
      revert hfollows; cases s.heads[d].state <;> intro hf <;> first | exact ⟨_, rfl⟩ | cases hf
    have hpair := hgood.lawful.pair p hp
    refine followPair_follows _ d ?_ p ?_ ?_ <;> rw [heads_setHead_same]
    · exact hfollows
    · exact hp
    · rw [← hpair]; exact requalify_flips hone
  generalize (s.setHead d (s.heads[d].requalify s.qual)).followPair d = u at hrow ⊢
  cases hrow with
  | depart x hin hpair =>
    rw [heads_setHead_same] at hpair
    obtain ⟨hx, hcls⟩ := inPassage_iff x hin
    unfold State.depart
    simp only
    split
    · exact hfault
    · rw [heads_setHead_same]
      exact hset _ (hgood.moved hfollows hx hpair (p := some s.stepNo) hin.symm ((classAfter_append _ _ _).trans hcls.symm))
  | move x hold hin hpair =>
    rw [heads_setHead_same] at hpair hold
    obtain ⟨hx, hcls⟩ := inPassage_iff x hin
    have hcls' := (inPassage_iff _ hold).2
    unfold State.moveTo
    rw [heads_setHead_same]
    exact hset _ (hgood.moved hfollows hx hpair (p := s.heads[d].passageStart)
      (hgood.lawful.passage.trans (Eq.trans hold hin.symm)) (hgood.view.trans (Eq.trans hcls' hcls.symm)))
  | withdraw hpair =>
    rw [heads_setHead_same] at hpair
    unfold State.withdrawHead
    rw [heads_setHead_same]
    exact hset _ (hgood.moved (x := .free) hfollows rfl hpair (p := none) rfl (classAfter_append _ _ _))
  | count dir hpair =>
    rw [heads_setHead_same] at hpair
    unfold State.countingReturn
    simp only
    split
    · exact hfault
    · rw [heads_setHead_same]
      exact hset _ (hgood.moved (x := .free) hfollows rfl hpair (p := none) rfl (classAfter_append_axle _ _ _ _))

/-- Clearing glitches does not touch a change that is due, nor do the fault input and the glitch itself (R3; log 4). -/
theorem changed_clearGlitches (h : Head) (qual : Nat) :
    h.clearGlitches.changed1 qual = h.changed1 qual ∧ h.clearGlitches.changed2 qual = h.changed2 qual := by
  obtain ⟨_, _, hsame1, hsame2⟩ := clearGlitches_cand h
  unfold Head.changed1 Head.changed2
  constructor
  · change (h.raw1 != h.q1 && _) = _
    by_cases hr : h.raw1 = h.q1
    · simp [hr]
    · rw [hsame1 hr]
  · change (h.raw2 != h.q2 && _) = _
    by_cases hr : h.raw2 = h.q2
    · simp [hr]
    · rw [hsame2 hr]

theorem Head.SameChannels.changed {h g : Head} (a : h.SameChannels g) (qual : Nat) :
    g.changed1 qual = h.changed1 qual ∧ g.changed2 qual = h.changed2 qual := by
  obtain ⟨hq1, hq2, hc1, hc2, hr1, hr2⟩ := a
  unfold Head.changed1 Head.changed2
  rw [hq1, hq2, hc1, hc2, hr1, hr2]
  exact ⟨rfl, rfl⟩

theorem HeadLaw.takeChange {s : State} (h : HeadLaw s) (d : DP) : HeadLaw (s.takeChange d) := by
  cases hdue : s.changeDue d with
  | false =>
    obtain ⟨h1, h2⟩ := Bool.or_eq_false_iff.mp hdue
    rw [takeChange_of_none s d h1 h2]
    exact h
  | true =>
    obtain ⟨hfault, hsameFault⟩ := takeFaultInput_onHead s d
    obtain ⟨hglitch, hsameGlitch⟩ := takeGlitch_onHead (s.takeFaultInput d) d
    have hon := hfault.trans hglitch
    have hlaw := (h.takeFaultInput d).takeGlitch d
    have hsame := (clearGlitches_channels hsameFault).trans hsameGlitch
    rw [takeChange_of_due s d hdue]
    simp only
    generalize (s.takeFaultInput d).takeGlitch d = t at hon hlaw hsame
    rw [← hon.mode, ← hon.qual]
    obtain ⟨hold1, hold2⟩ := changed_clearGlitches s.heads[d] t.qual
    obtain ⟨hch1, hch2⟩ := hsame.changed t.qual
    rw [hold1.symm.trans hch1.symm, hold2.symm.trans hch2.symm]
    obtain ⟨hle1, hle2⟩ := requalify_cand t.heads[d] t.qual
    have hgood := hlaw.good d
    split
    case isTrue hact =>
      obtain ⟨hrun, hfollows⟩ := Bool.and_eq_true_iff.mp hact
      split
      case isTrue =>
        exact hlaw.setFault hrun _ .transition hgood.lawful.bucket.1
          ⟨hle1.trans hgood.lawful.candidates.1, hle2.trans hgood.lawful.candidates.2⟩
      case isFalse hboth =>
        refine hlaw.followPair hrun hfollows ?_
        have hdue' : (t.heads[d].changed1 t.qual || t.heads[d].changed2 t.qual) = true := by
          rw [hch1, hch2, hold1, hold2, hon.qual]; exact hdue
        revert hdue' hboth
        cases t.heads[d].changed1 t.qual <;> cases t.heads[d].changed2 t.qual <;> decide
    case isFalse hact =>
      refine hlaw.setHead (hgood.requalify hlaw.bounds.1.2 (Bool.eq_false_iff.mpr fun hf => ?_))
      cases hrun : t.mode.running with
      | true => exact hact (by rw [hrun, hf]; rfl)
      | false => rw [(hgood.lawful.held hrun).1] at hf; cases hf

theorem HeadLaw.takeRecovery {s : State} (h : HeadLaw s) (d : DP) {since : HeadState} (hsince : since = .fault ∨ since = .unknown) :
    HeadLaw (s.takeRecovery d since) := by
  obtain ⟨_, hlimit, hsteps⟩ := h.bounds
  unfold State.takeRecovery
  simp only
  split
  case isTrue hdue =>
    obtain ⟨hact, htime⟩ := Bool.and_eq_true_iff.mp hdue
    obtain ⟨hrun, hstate⟩ := Bool.and_eq_true_iff.mp hact
    have hnot : s.heads[d].state.follows = false := by
      rw [of_decide_eq_true hstate]
      rcases hsince with rfl | rfl <;> rfl
    have hgood := (h.good d).recovered hsteps hlimit hnot (of_decide_eq_true htime)
    rw [← hrun] at hgood
    exact h.setHead hgood
  case isFalse => exact h

theorem HeadLaw.headMove {s t : State} (m : HeadMove s t) (h : HeadLaw s) : HeadLaw t := by
  cases m with
  | faultInput d => exact h.takeFaultInput d
  | glitch d => exact h.takeGlitch d
  | change d => exact h.takeChange d
  | recovery d since hsince => exact h.takeRecovery d hsince
  | drain =>
    unfold State.drainBuckets
    split
    · refine headLaw_of_good h.globals h.stored fun d => ?_
      have hget : ({ s.mapHeads Head.drain with drainDue := false } : State).heads[d] = s.heads[d].drain := heads_mapHeads s _ d
      rw [hget]
      exact (h.good d).drain
    · exact h
  | axleTaken d e rest hbox =>
    have hgood := h.good d
    refine h.setHead ⟨{ hgood.lawful with held := fun hr => ?_ }, ?_⟩
    · have hempty := (hgood.lawful.held hr).2.1
      rw [hbox] at hempty
      cases hempty
    · have hview := hgood.view
      rw [hbox] at hview
      exact hview

/-- A class that the Counting Engine takes from a head goes into its view of that head (R62). -/
theorem HeadLaw.classTaken {s : State} (h : HeadLaw s) (d : DP) (c : HeadClass) (rest : List HandedOn)
    (hbox : s.heads[d].outbox = .classChange c :: rest) :
    HeadLaw ((s.setHead d { s.heads[d] with outbox := rest }).applyClass d c) := by
  obtain ⟨w, a, he, _⟩ := classTaken_frame s d c { s.heads[d] with outbox := rest }
  rw [he]
  refine headLaw_of_good h.globals h.stored fun e => ?_
  change Head.Good s.mode.running s.qual s.image.globals.glitchLimit s.recoverySteps (s.view.set d c)[e]
    (s.setHead d { s.heads[d] with outbox := rest }).heads[e]
  by_cases hed : e = d
  · subst hed
    have hgood := h.good e
    rw [heads_setHead_same, view_set_same]
    refine ⟨{ hgood.lawful with held := fun hr => ?_ }, ?_⟩
    · have hempty := (hgood.lawful.held hr).2.1
      rw [hbox] at hempty
      cases hempty
    · have hview := hgood.view
      rw [hbox] at hview
      exact hview
  · rw [heads_setHead_ne s d e _ hed, view_set_ne s d e c hed]
    exact h.good e

/-! ### Moves from mode to mode -/

/-- Running mode to running mode, the heads, the view and the image as they stand. -/
theorem HeadLaw.stay {s t : State} (h : HeadLaw s) (hmode : t.mode.running = s.mode.running) (himage : t.image = s.image)
    (hstore : t.store = s.store) (hheads : t.heads = s.heads) (hview : t.view = s.view) : HeadLaw t := by
  refine headLaw_of_good (by rw [himage]; exact h.globals) (by rw [hstore]; exact h.stored) fun d => ?_
  unfold State.HeadGood State.qual State.recoverySteps
  rw [hmode, himage, hheads, hview]
  exact h.good d

theorem notFree_get (d : DP) : (Vector.replicate 32 HeadClass.notFree)[d] = .notFree := by simp

/-- Held mode to held mode, the heads as they stand: the view and the working image do not matter. -/
theorem HeadLaw.stay_held {s t : State} (h : HeadLaw s) (hs : s.mode.running = false) (ht : t.mode.running = false)
    (hglobals : t.image.globals.clamp = t.image.globals) (hstore : t.store = s.store) (hheads : t.heads = s.heads)
    (hview : t.view = s.view ∨ ∀ d : DP, t.view[d] = .notFree) : HeadLaw t := by
  refine headLaw_of_good hglobals (by rw [hstore]; exact h.stored) fun d => ?_
  have hgood := h.good d
  have hqual : t.qual = s.qual := qual_of_held hs ht
  unfold State.HeadGood at hgood ⊢
  rw [hs] at hgood
  have hfree := hgood.held t.image.globals.glitchLimit t.recoverySteps
  rw [ht, hqual, hheads]
  rcases hview with hview | hview
  · rw [hview]
    refine ⟨hfree.lawful, ?_⟩
    have hc := hgood.view
    exact hc
  · rw [hview d]; exact hfree

theorem HeadLaw.enterImage {s : State} (i : Image) (g : Signature) (hglobals : i.globals.clamp = i.globals)
    (hstored : ∀ x, s.store = some x → x.image.globals.clamp = x.image.globals) : HeadLaw (s.enterImage i g) := by
  refine headLaw_of_good hglobals hstored fun d => ?_
  have hview : (s.enterImage i g).view[d] = .notFree := notFree_get d
  unfold State.HeadGood
  rw [enterImage_heads, hview]
  exact good_toUnknown s.heads[d] _ _ _ _ s.heads[d].lastCause

/-- Every head unknown, as the held modes qualify: the law, whatever was before. -/
theorem headLaw_of_unknown {t : State} (ht : t.mode.running = false) (hglobals : t.image.globals.clamp = t.image.globals)
    (hstored : ∀ x, t.store = some x → x.image.globals.clamp = x.image.globals)
    (hheads : ∀ d : DP, ∃ (g : Head) (c : FaultCause), t.heads[d] = { g.toUnknown heldQual with lastCause := c })
    (hview : ∀ d : DP, t.view[d] = .notFree) : HeadLaw t := by
  refine headLaw_of_good hglobals hstored fun d => ?_
  obtain ⟨g, c, hget⟩ := hheads d
  have hqual : t.qual = heldQual := by unfold State.qual; rw [ht]; rfl
  unfold State.HeadGood
  rw [hget, hview d, ht, hqual]
  exact good_toUnknown g _ _ _ _ c

theorem HeadLaw.load {s t : State} (hmode : s.mode = .loading) (m : LoadMove s t) (h : HeadLaw s) : HeadLaw t := by
  have hheld : s.mode.running = false := by rw [hmode]; rfl
  cases m with
  | index table index =>
    unfold State.setIndex
    split
    · exact h.stay rfl rfl rfl rfl rfl
    · split <;> exact h.stay rfl rfl rfl rfl rfl
  | map n terms =>
    unfold State.writeMap
    split
    · split
      · exact h.stay_held hheld hheld h.globals rfl rfl (.inl rfl)
      · exact h
    all_goals exact h
  | sect a b c d =>
    unfold State.writeSect
    split
    · exact h.stay_held hheld hheld h.globals rfl rfl (.inl rfl)
    · exact h
  | globals g p q => exact h.stay_held hheld hheld (globals_clamp_clamp g) rfl rfl (.inl rfl)
  | endLoad => exact h.stay_held hheld rfl h.globals rfl rfl (.inl rfl)

theorem HeadLaw.mode {s t : State} (m : ModeMove s t) (h : HeadLaw s) : HeadLaw t := by
  cases m with
  | halt c hmode => rw [enterHalted_eq]; exact h.stay (by rw [hmode]; rfl) rfl rfl rfl rfl
  | softHalt hmode => rw [enterHalted_eq]; exact h.stay (by rw [hmode]; rfl) rfl rfl rfl rfl
  | start =>
    obtain he | ⟨_, x, hstore, _, he⟩ | ⟨hmode, he⟩ := completeStart_cases s <;> rw [he]
    · exact h
    · exact HeadLaw.enterImage x.image x.signature (h.stored x hstore) h.stored
    · exact h.stay_held (by rw [hmode]; rfl) rfl rfl rfl rfl (.inl rfl)
  | clearing =>
    obtain he | ⟨hmode, _, he⟩ := completeClearing_cases s <;> rw [he]
    · exact h
    · have hheld : s.mode.running = false := by rw [hmode]; rfl
      exact h.stay_held hheld hheld rfl rfl rfl (.inl rfl)
  | verify =>
    obtain he | ⟨_, _, he⟩ | ⟨hmode, o, he⟩ := completeVerify_cases s <;> rw [he]
    · exact h
    · exact HeadLaw.enterImage _ _ h.globals fun x hx => by rw [← Option.some.inj hx]; exact h.globals
    · exact h.stay_held (by rw [hmode]; rfl) rfl h.globals rfl rfl (.inl rfl)
  | abandon =>
    obtain ⟨_, he⟩ | ⟨hmode, he⟩ := abandonLoad_cases s <;> rw [he]
    · exact h
    · exact h.stay_held (by rw [hmode]; rfl) rfl h.globals rfl rfl (.inl rfl)
  | beginLoad =>
    rw [beginLoad_eq]
    cases hrun : s.mode.running with
    | false => exact h.stay_held hrun rfl rfl rfl rfl (.inr notFree_get)
    | true =>
      exact headLaw_of_unknown rfl rfl h.stored (fun d => ⟨s.heads[d], s.heads[d].lastCause, tabulate_get _ d⟩) notFree_get
  | restart =>
    rw [restart_eq]
    exact headLaw_of_unknown rfl rfl h.stored (fun d => ⟨s.heads[d], .none, tabulate_get _ d⟩) notFree_get
  | endorse l g =>
    obtain he | ⟨_, _, _, he⟩ | ⟨hmode, _, _, he⟩ := endorse_cases l g s <;> rw [he]
    · exact h
    · cases l <;> exact h.stay rfl rfl rfl rfl rfl
    · cases l <;> exact h.stay (by rw [hmode]; rfl) rfl rfl rfl rfl
  | unendorse l => cases l <;> exact h.stay rfl rfl rfl rfl rfl
  | withdraw l hmode =>
    obtain ⟨a, he⟩ := stopCounting_eq (s.setEndorsed l false)
    rw [he]
    cases l <;> exact h.stay (by rw [hmode]; rfl) rfl rfl rfl rfl
  | powerOn =>
    have hhead (d : DP) : (Vector.replicate 32 Head.reset)[d] = { Head.reset.toUnknown heldQual with lastCause := .none } := by
      have hget : (Vector.replicate 32 Head.reset)[d] = Head.reset := by simp
      rw [hget]; rfl
    refine headLaw_of_unknown rfl rfl (fun x hx => ?_) (fun d => ⟨Head.reset, .none, hhead d⟩) notFree_get
    obtain he | ⟨_, _, he⟩ := storeAfterPowerLoss_cases s
    · exact h.stored x (he.symm.trans hx)
    · rw [← Option.some.inj (he.symm.trans hx)]
      exact h.globals

theorem HeadLaw.sample {s : State} (h : HeadLaw s) (inputs : Vector Sample 32) (hsettled : s.Settled) : HeadLaw (s.sampleAll inputs) := by
  refine headLaw_of_good h.globals h.stored fun d => ?_
  have hget : (s.sampleAll inputs).heads[d] = s.heads[d].sample s.mode.running s.recoverySteps inputs[d] := tabulate_get _ d
  rw [hget]
  exact (h.good d).sample h.bounds.1.1 (hsettled d) inputs[d]

theorem HeadLaw.move (s t : State) (m : Move s t) (h : HeadLaw s) : HeadLaw t := by
  cases m with
  | link m => exact h.of_keeps m.keeps.image m.keeps.heads
  | aside m => exact h.of_keeps m.keeps.image m.keeps.heads
  | head m => exact h.headMove m
  | sect m => exact h.of_keeps m.keeps.1 m.keeps.2.2
  | classTaken d c rest hbox => exact h.classTaken d c rest hbox
  | integrity m => exact h.of_keeps m.keeps.1 m.keeps.2.2
  | load hmode _ m => exact h.load hmode m
  | mode m => exact h.mode m
  | sample inputs hsettled => exact h.sample inputs hsettled
  | tick => exact h.of_keeps (tick_keeps s).1 (tick_keeps s).2

/-- Settles O59: every move keeps each head's record good; what a head hands on carries just the class that its view still lacks. -/
theorem headLawKept : Obligations.HeadLawKept := step_keeps HeadLaw.move

end Sys2Proof.Machine
end

section
/-! PROOFS. The block as a whole and the Timebase (R1, R2, R65, R142): a step runs the front command, every command answers and keeps the queue,
power-on gives the values of the state after reset, and a sampling step counts steps, ticks and timers. -/

namespace Sys2Proof.Machine

/-! ### Steps -/

/-- Settles O1: the queue is taken apart where the step takes it apart. -/
theorem stepRunsFrontCommand : Obligations.StepRunsFrontCommand := by
  refine ⟨fun s c rest hfront => ?front, fun s hempty => ?idle⟩
  case front => unfold step; rw [hfront]
  case idle => unfold step; rw [hempty]

/-! ### Every command answers -/

theorem keepsTime_takeReport (s : State) (l : SupLink) : KeepsTime s (s.takeReport l) := by
  unfold State.takeReport
  split
  · exact keepsTime_setSup s l _
  · exact KeepsTime.refl s

theorem keepsTime_takeAsked (s : State) (l : SupLink) (n : Notice) : KeepsTime s (s.takeAsked l n) := by
  unfold State.takeAsked
  split
  · exact keepsTime_setSup s l _
  · exact KeepsTime.refl s

theorem keepsTime_takeChar (s : State) (l : Link) (c : Character) : KeepsTime s (s.takeChar l c) :=
  (keepsTime_settleRx s l).trans (keepsTime_setLine _ l _)

theorem keepsTime_readHead (s : State) (n : Nat) : KeepsTime s (s.readHead n).1 := by
  unfold State.readHead
  split <;> exact KeepsTime.refl s

/-- A command's state has the queue and the Timebase numbers of the state before it (R1). -/
def SameTime (s t : State) : Prop := t.pending = s.pending ∧ t.stepNo = s.stepNo ∧ t.stamp = s.stamp

theorem KeepsTime.sameTime {s t : State} (h : KeepsTime s t) : SameTime s t := ⟨h.pending, h.stepNo, h.stamp⟩

/-- Every command but POWER_ON and SAMPLING_STEP answers a state with the same queue, step number and stamp (R1; log 2, log 21). -/
theorem exec_sameTime (c : Instr) (s : State) (hpower : c ≠ .powerOn) (hsample : ∀ x, c ≠ .samplingStep x) :
    ∃ t, exec c s = .next t ∧ SameTime s t := by
  have kept {t : State} (he : exec c s = .next t) (h : KeepsTime s t) : ∃ t, exec c s = .next t ∧ SameTime s t :=
    ⟨t, he, h.sameTime⟩
  cases c with
  | powerOn => exact absurd rfl hpower
  | samplingStep x => exact absurd rfl (hsample x)
  | bucketDrain =>
    obtain ⟨hpending, hstep, hstamp, _⟩ := drainBuckets_time s
    exact ⟨_, rfl, hpending, hstep, hstamp⟩
  | qualifiedChange d => exact kept rfl (keepsTime_takeChange s d)
  | glitch d => exact kept rfl (keepsTime_takeGlitch s d)
  | frontEndFault d => exact kept rfl (keepsTime_takeFaultInput s d)
  | headRecovery d => exact kept rfl (keepsTime_takeRecovery s d _)
  | unknownRecovery d => exact kept rfl (keepsTime_takeRecovery s d _)
  | axleEvent d read1 read2 => exact kept rfl (keepsTime_takeAxle s d read1 read2)
  | headClassChange d => exact kept rfl (keepsTime_takeClass s d)
  | settleExpiry k => exact kept rfl (keepsTime_takeSettle s k)
  | historyPeriodExpiry => exact kept rfl (keepsTime_takePeriod s)
  | concurWindowExpiry k => exact kept rfl (keepsTime_takeWindow s k)
  | scrubStart => exact kept rfl (keepsTime_startScrub s)
  | scrubComplete read => exact kept rfl (keepsTime_completeScrub s read)
  | clockWindowEnd => exact kept rfl (keepsTime_endClockWindow s)
  | startComplete => exact kept rfl (keepsTime_completeStart s)
  | clearingComplete => exact kept rfl (keepsTime_completeClearing s)
  | verifyComplete => exact kept rfl (keepsTime_completeVerify s)
  | svkeyInactive => exact kept rfl (keepsTime_keyInactive s)
  | resetPrep l n => exact kept rfl (keepsTime_takeSup s l _ _ (keepsTime_requestReset .prep l n))
  | resetDirect l n => exact kept rfl (keepsTime_takeSup s l _ _ (keepsTime_requestReset .direct l n))
  | resetCancel l n => exact kept rfl (keepsTime_takeSup s l _ _ (keepsTime_cancelReset l n))
  | sectionDetail l n => exact kept rfl (keepsTime_takeSup s l _ _ (keepsTime_sectDetail n))
  | noticeAck l m => exact kept rfl (keepsTime_takeSup s l _ _ fun t => keepsTime_setSup t l _)
  | noticeMask l m a => exact kept rfl (keepsTime_takeSup s l _ _ fun t => keepsTime_setSup t l _)
  | endorse l g => exact kept rfl (keepsTime_takeSup s l _ _ (keepsTime_endorse l g))
  | withdraw l => exact kept rfl (keepsTime_takeSup s l _ _ (keepsTime_withdraw l))
  | loadBegin key => exact kept rfl (keepsTime_takeSvc s _ _ (keepsTime_judgedByKey key _ _ keepsTime_beginLoad))
  | loadStatus => exact kept rfl (keepsTime_takeSvc s _ _ KeepsTime.refl)
  | loadIndex key a b => exact kept rfl (keepsTime_takeSvc s _ _ (keepsTime_judgedByKey key _ _ (keepsTime_setIndex a b)))
  | mapEntry key d ts => exact kept rfl (keepsTime_takeSvc s _ _ (keepsTime_judgedByKey key _ _ (keepsTime_writeMap d ts)))
  | sectionEntry key a b x y =>
    exact kept rfl (keepsTime_takeSvc s _ _ (keepsTime_judgedByKey key _ _ (keepsTime_writeSect a b x y)))
  | globalEntry key g p q =>
    exact kept rfl (keepsTime_takeSvc s _ _ (keepsTime_judgedByKey key _ _ fun _ => ⟨rfl, rfl, rfl, rfl⟩))
  | loadEnd key => exact kept rfl (keepsTime_takeSvc s _ _ (keepsTime_judgedByKey key _ _ fun _ => ⟨rfl, rfl, rfl, rfl⟩))
  | restart key => exact kept rfl (keepsTime_takeSvc s _ _ (keepsTime_judgedByKey key _ _ keepsTime_restart))
  | headRead n => exact kept rfl (keepsTime_takeSvc s _ _ fun t => keepsTime_readHead t n)
  | haltRead => exact kept rfl (keepsTime_takeSvc s _ _ KeepsTime.refl)
  | telegramEnd l => exact kept rfl (keepsTime_endTelegram s l)
  | responseStart l => exact kept rfl (keepsTime_startResponse s l)
  | statusStart l => exact kept rfl (keepsTime_startStatus s l)
  | eventsStart l => exact kept rfl (keepsTime_startEvents s l)
  | transmitEnd l => exact kept rfl (keepsTime_setLine s l _)
  | gapEnd l => exact kept rfl (keepsTime_setLine s l _)
  | reportTimerExpiry l => exact kept rfl (keepsTime_takeReport s l)
  | lineRateChange l flow =>
    cases flow with
    | receive => exact kept rfl (keepsTime_settleRx s (.sup l))
    | transmit => exact kept rfl (keepsTime_settleTx s (.sup l))
  | noticeSet l n => exact kept rfl (keepsTime_takeAsked s l n)
  | attnPulseEnd l => exact kept rfl (keepsTime_setSup s l _)
  | characterReceived l c => exact kept rfl (keepsTime_takeChar s l c)

/-! ### A sampling step -/

theorem exec_samplingStep (inputs : Vector Sample 32) (s : State) : exec (.samplingStep inputs) s = .next (s.sampling inputs) := rfl

/-- Every tenth step is a tick (R1). -/
theorem sampling_of_tick (s : State) (inputs : Vector Sample 32) (h : (s.stepNo + 1) % 10 = 0) :
    s.sampling inputs = (s.takeDue.sampleAll inputs).tick := by
  refine if_pos ?_
  change (s.takeDue.stepNo + 1) % 10 = 0
  rw [(takeDue_time s).2.1]
  exact h

theorem sampling_of_no_tick (s : State) (inputs : Vector Sample 32) (h : ¬ (s.stepNo + 1) % 10 = 0) :
    s.sampling inputs = s.takeDue.sampleAll inputs := by
  refine if_neg ?_
  change ¬ (s.takeDue.stepNo + 1) % 10 = 0
  rw [(takeDue_time s).2.1]
  exact h

theorem sampleAll_heads (s : State) (inputs : Vector Sample 32) (d : DP) :
    (s.sampleAll inputs).heads[d] = s.heads[d].sample s.mode.running s.recoverySteps inputs[d] := tabulate_get _ d

/-- Whether a tick follows or not, a step reads every head once (R2). -/
theorem sampling_heads (s : State) (inputs : Vector Sample 32) (d : DP) :
    (s.sampling inputs).heads[d] = s.takeDue.heads[d].sample s.takeDue.mode.running s.takeDue.recoverySteps inputs[d] := by
  rw [← sampleAll_heads s.takeDue inputs d]
  by_cases htick : (s.stepNo + 1) % 10 = 0
  · rw [sampling_of_tick s inputs htick]; rfl
  · rw [sampling_of_no_tick s inputs htick]

theorem sampling_pending (s : State) (inputs : Vector Sample 32) : (s.sampling inputs).pending = s.pending := by
  rw [← (takeDue_time s).1]
  by_cases htick : (s.stepNo + 1) % 10 = 0
  · rw [sampling_of_tick s inputs htick]; rfl
  · rw [sampling_of_no_tick s inputs htick]; rfl

/-- Settles O2: the two commands that move the Timebase keep the queue, and the other commands keep it with the Timebase. -/
theorem commandsComplete : Obligations.CommandsComplete := by
  refine ⟨fun c s => ?answers, fun c s hpower hsample => ?timebase⟩
  case timebase =>
    obtain ⟨t, he, _, hstep, hstamp⟩ := exec_sameTime c s hpower hsample
    exact ⟨t, he, hstep, hstamp⟩
  case answers =>
    by_cases hpower : c = .powerOn
    · subst hpower; exact ⟨_, rfl, rfl⟩
    · by_cases hsample : ∃ x, c = .samplingStep x
      · obtain ⟨x, rfl⟩ := hsample
        exact ⟨_, rfl, sampling_pending s x⟩
      · obtain ⟨t, he, hpending, _, _⟩ := exec_sameTime c s hpower fun x hx => hsample ⟨x, hx⟩
        exact ⟨t, he, hpending⟩

/-- Settles O6: the step itself and, at every tenth, its tick; what was due is taken before either. -/
theorem samplingStepResult : Obligations.SamplingStepResult := by
  intro s inputs
  obtain ⟨_, hstep, hstamp, hdrain⟩ := takeDue_time s
  have hraw (d : DP) : (s.sampling inputs).heads[d].raw1 = inputs[d].ch1 ∧ (s.sampling inputs).heads[d].raw2 = inputs[d].ch2 ∧
      (s.sampling inputs).heads[d].faultIn = inputs[d].fault := by
    rw [sampling_heads]; exact ⟨rfl, rfl, rfl⟩
  by_cases htick : (s.stepNo + 1) % 10 = 0
  · refine ⟨_, exec_samplingStep inputs s, ?_, ?_, ?_, hraw⟩
    all_goals rw [sampling_of_tick s inputs htick]
    · exact congrArg (· + 1) hstep
    · rw [if_pos htick]; exact congrArg (· + 1#16) hstamp
    · change (s.takeDue.drainDue || decide ((s.takeDue.stepNo + 1) % 1000 = 0)) = _
      rw [hdrain, hstep]; rfl
  · refine ⟨_, exec_samplingStep inputs s, ?_, ?_, ?_, hraw⟩
    all_goals rw [sampling_of_no_tick s inputs htick]
    · exact congrArg (· + 1) hstep
    · rw [if_neg htick]; exact hstamp
    · have hnone : ¬ (s.stepNo + 1) % 1000 = 0 := by omega
      rw [decide_eq_false hnone]; exact hdrain

theorem recovers_iff (x : HeadState) : x.recovers = true ↔ x = .unknown ∨ x = .fault := by
  cases x <;> simp [HeadState.recovers]

/-- The recovery condition holds where the fault input is inactive, both channels are qualified free and no raw level has moved (R19). -/
theorem quiet_iff (x : Sample) (h : Head) :
    h.quiet x = true ↔ x.fault = false ∧ h.q1 = false ∧ h.q2 = false ∧ x.ch1 = h.raw1 ∧ x.ch2 = h.raw2 := by
  simp only [Head.quiet, Bool.and_eq_true, Bool.not_eq_true', beq_iff_eq, and_assoc]

/-- A tick of a state in which nothing was due, timer by timer (R65, R89, R107, R128, R132, R154, R172). -/
theorem sampled_tick (s : State) (inputs : Vector Sample 32) :
    (∀ k : SectNo, (s.sampleAll inputs).tick.sects[k] =
        { s.sects[k] with settle := s.sects[k].settle.map fun e => min (e + 1) (s.settleTime k) }) ∧
      ∀ k : SectNo, (s.sampleAll inputs).tick.records[k] =
        s.records[k].map fun r => { r with elapsed := min (r.elapsed + 1) s.windowTicks } :=
  ⟨tick_sects (s.sampleAll inputs), tick_records (s.sampleAll inputs)⟩

/-- Settles O7: with nothing due the step is the reading of the heads and, at every tenth step, the tick. -/
theorem samplingWithNothingDue : Obligations.SamplingWithNothingDue := by
  refine ⟨fun s inputs hdue => ⟨_, exec_samplingStep inputs s, fun d => ?head⟩,
    fun s inputs hdue => ⟨_, exec_samplingStep inputs s, ?timers⟩⟩
  case head =>
    rw [sampling_heads, hdue]
    simp only [Head.sample, nextCandidate, Bool.and_eq_true, recovers_iff, quiet_iff, State.recoverySteps]
  case timers =>
    by_cases htick : (s.stepNo + 1) % 10 = 0
    · rw [sampling_of_tick s inputs htick, hdue, if_pos htick]
      obtain ⟨hsects, hrecords⟩ := sampled_tick s inputs
      exact ⟨⟨hsects, rfl, hrecords, rfl, rfl, rfl, fun l => by cases l <;> rfl⟩, fun l => by cases l <;> rfl, rfl⟩
    · rw [sampling_of_no_tick s inputs htick, hdue, if_neg htick]
      exact ⟨⟨rfl, rfl, rfl, rfl, rfl, rfl, rfl, fun l => by cases l <;> rfl⟩, fun l => by cases l <;> rfl, rfl⟩

/-! ### Power-on -/

/-- Settles O4: power-on is the state after reset but for the store, the queue and the next free value. -/
theorem powerOnResult : Obligations.PowerOnResult := by
  intro s
  have hstore := storeAfterPowerLoss_cases s
  refine ⟨s.powerOn, rfl, rfl, rfl, ?kept, ?oldOrNew⟩
  case kept => exact hstore.elim .inr fun ⟨hmode, hlegal, _⟩ => .inl ⟨hmode, hlegal⟩
  case oldOrNew => exact hstore.imp id fun ⟨_, _, hnew⟩ => hnew

theorem reset_heads (d : DP) : State.reset.heads[d] = Head.reset := by simp [State.reset]

theorem reset_sects (k : SectNo) : State.reset.sects[k] = Sect.reset := by simp [State.reset]

theorem reset_view (d : DP) : State.reset.view[d] = .notFree := by simp [State.reset]

theorem reset_records (k : SectNo) : State.reset.records[k] = none := by simp [State.reset]

/-- Settles O3: the values of the state after reset, field by field. -/
theorem resetValues : Obligations.ResetValues := by
  refine ⟨⟨rfl, rfl, fun d => ?heads, fun k => ?bounding, fun d => ?routing, fun d => ?codes⟩,
    ⟨reset_sects, reset_view, rfl, rfl, reset_records⟩,
    ⟨rfl, rfl, rfl, rfl, rfl, rfl, rfl, rfl, rfl, rfl, rfl, fun k => ?imageSects, fun d => ?imageMap⟩,
    ⟨rfl, rfl, rfl, rfl, rfl, rfl⟩, fun l => ?links, rfl⟩
  case heads => rw [reset_heads]; exact ⟨rfl, rfl, rfl, rfl, rfl, rfl, rfl, rfl, rfl, rfl⟩
  case bounding => simp [State.reset]
  case routing => simp [State.reset, LinkSet.empty]
  case codes => simp [State.reset]
  case imageSects => simp [State.reset, Image.default, SectEntry.default]
  case imageMap => simp [State.reset, Image.default]
  case links => cases l <;> exact ⟨rfl, rfl, rfl, rfl, rfl, rfl, rfl, rfl, rfl, rfl⟩

/-- Settles O5: the state after reset holds no image, no record and no cause, and each law has a lemma for that. -/
theorem lawsHoldAtReset : Obligations.LawsHoldAtReset := by
  have hempty {P : Stored → Prop} (x : Stored) (hx : State.reset.store = some x) : P x := by cases hx
  refine ⟨sectionLaw_of_reset rfl reset_sects, recordLaw_of_none reset_records, ?mode,
    ImageLaw.held rfl rfl ⟨rfl, rfl, rfl⟩ default_inRange hempty, ?integrity, ?heads, linkLaw_of_reset rfl rfl rfl⟩
  case mode => exact ModeLaw.held rfl rfl rfl rfl (by simp [State.reset]) (Nat.zero_le _) (Nat.zero_le _)
  case integrity => exact IntegrityLaw.of_held ⟨rfl, rfl, rfl, rfl⟩ rfl softRange_default hempty rfl (Nat.zero_le _)
  case heads => exact headLaw_of_unknown rfl rfl hempty (fun d => ⟨Head.reset, .none, by rw [reset_heads]; rfl⟩) reset_view

end Sys2Proof.Machine
end

section
/-! PROOFS. What the commands of a head do (chapter 1): the fault input, the drain and the recovery; the glitches and the changes, each taken after
what comes before it at its step (log 4). -/

namespace Sys2Proof.Machine

theorem exec_qualifiedChange (d : DP) (s : State) : exec (.qualifiedChange d) s = .next (s.takeChange d) := rfl

theorem exec_glitch (d : DP) (s : State) : exec (.glitch d) s = .next (s.takeGlitch d) := rfl

/-! ### The fault input, the drain and the recovery -/

theorem takeFaultInput_of_active {s : State} {d : DP} (hrun : s.mode.running = true) (hin : s.heads[d].faultIn = true)
    (hstate : s.heads[d].state ≠ .fault) : s.takeFaultInput d = s.enterFault d .frontEnd :=
  (if_pos (by rw [hrun, hin]; rfl)).trans (if_neg hstate)

theorem takeFaultInput_of_fault {s : State} {d : DP} (hrun : s.mode.running = true) (hin : s.heads[d].faultIn = true)
    (hstate : s.heads[d].state = .fault) :
    s.takeFaultInput d = s.setHead d { s.heads[d] with lastCause := .frontEnd, recovery := 0 } :=
  (if_pos (by rw [hrun, hin]; rfl)).trans (if_pos hstate)

/-- The fault input acts once: a head in FAULT with cause FRONT_END and its timer at 0 is as it would leave it (R18). -/
theorem takeFaultInput_idem (s : State) (d : DP) : (s.takeFaultInput d).takeFaultInput d = s.takeFaultInput d := by
  obtain ⟨_, h⟩ | ⟨hrun, hin, hstate, h⟩ | ⟨hrun, hin, _, h⟩ := takeFaultInput_cases s d
  · rw [h, h]
  · rw [h, takeFaultInput_of_fault]
    · rw [heads_setHead_same, setHead_setHead]
    · exact hrun
    · rw [heads_setHead_same]; exact hin
    · rw [heads_setHead_same]; exact hstate
  · rw [h, takeFaultInput_of_fault]
    · have hsame : { (s.enterFault d .frontEnd).heads[d] with lastCause := .frontEnd, recovery := 0 } =
          (s.enterFault d .frontEnd).heads[d] := by rw [heads_enterFault]
      rw [hsame, setHead_self]
    · rw [enterFault_eq]; exact hrun
    · rw [heads_enterFault]; exact hin
    · rw [heads_enterFault]

/-- Settles O15: the entry into FAULT, and the three cases of the fault input. -/
theorem frontEndFaultResult : Obligations.FrontEndFaultResult := by
  refine ⟨fun s d c => rfl, fun s d => ⟨fun hrun hin hstate => ?enters, fun hrun hin hstate => ?restarts, fun hnone => ?stays⟩⟩
  case enters => exact congrArg Host.Outcome.next (takeFaultInput_of_active hrun hin hstate)
  case restarts => exact congrArg Host.Outcome.next (takeFaultInput_of_fault hrun hin hstate)
  case stays =>
    exact congrArg Host.Outcome.next (hnone.elim (takeFaultInput_of_held s d) (takeFaultInput_of_inactive s d))

theorem drain_eq (h : Head) : h.drain = { h with bucket := if h.state.follows = true then h.bucket - 1 else h.bucket } := by
  unfold Head.drain
  split <;> rfl

/-- Settles O14: the drain maps every head, and waits for its moment. -/
theorem bucketDrainResult : Obligations.BucketDrainResult := by
  refine fun s => ⟨fun hnone => ?idle, fun hdue => ⟨_, rfl, ?_⟩⟩
  case idle =>
    refine congrArg Host.Outcome.next (if_neg ?_)
    rw [hnone]; decide
  have hdrain : s.drainBuckets = { s.mapHeads Head.drain with drainDue := false } := if_pos hdue
  refine ⟨by rw [hdrain]; rfl, fun d => ?_⟩
  rw [hdrain]
  exact (heads_mapHeads s Head.drain d).trans (drain_eq _)

/-- When the recovery of a head in a state is due (R19, R20). -/
theorem recoveryDue_iff (s : State) (h : Head) (x : HeadState) :
    (s.mode.running && decide (h.state = x) && decide (s.recoverySteps ≤ h.recovery)) = true ↔
      s.mode.running = true ∧ h.state = x ∧ s.image.globals.recovery * 10000 ≤ h.recovery := by
  rw [Bool.and_eq_true, Bool.and_eq_true, decide_eq_true_iff, decide_eq_true_iff, and_assoc]
  rfl

theorem takeRecovery_of_due {s : State} {d : DP} {x : HeadState}
    (h : s.mode.running = true ∧ s.heads[d].state = x ∧ s.image.globals.recovery * 10000 ≤ s.heads[d].recovery) :
    s.takeRecovery d x = s.setHead d { s.heads[d] with
      state := .free, bucket := 0, recovery := 0, outbox := s.heads[d].outbox ++ [.classChange .free] } :=
  if_pos ((recoveryDue_iff s s.heads[d] x).mpr h)

theorem takeRecovery_of_not_due {s : State} {d : DP} {x : HeadState}
    (h : ¬ (s.mode.running = true ∧ s.heads[d].state = x ∧ s.image.globals.recovery * 10000 ≤ s.heads[d].recovery)) :
    s.takeRecovery d x = s :=
  if_neg fun hdue => h ((recoveryDue_iff s s.heads[d] x).mp hdue)

/-- Settles O16: both commands are one recovery, from FAULT and from UNKNOWN. -/
theorem recoveryResult : Obligations.RecoveryResult := by
  intro s d m hm
  obtain ⟨x, rfl, hexec⟩ : ∃ x, m.2 = x ∧ exec m.1 s = .next (s.takeRecovery d x) := by
    obtain rfl | rfl : m = (.headRecovery d, .fault) ∨ m = (.unknownRecovery d, .unknown) := by simpa using hm
    · exact ⟨_, rfl, rfl⟩
    · exact ⟨_, rfl, rfl⟩
  refine ⟨fun hdue => ?_, fun hnot => ?_⟩ <;> rw [hexec]
  · rw [takeRecovery_of_due hdue]
  · rw [takeRecovery_of_not_due hnot]

/-! ### Glitches -/

theorem glitch1_iff (h : Head) : h.glitch1 = true ↔ h.raw1 = h.q1 ∧ 0 < h.cand1 := by
  simp only [Head.glitch1, Bool.and_eq_true, beq_iff_eq, decide_eq_true_eq]

theorem glitch2_iff (h : Head) : h.glitch2 = true ↔ h.raw2 = h.q2 ∧ 0 < h.cand2 := by
  simp only [Head.glitch2, Bool.and_eq_true, beq_iff_eq, decide_eq_true_eq]

theorem glitches_eq (h : Head) :
    h.glitches = (if h.raw1 = h.q1 ∧ 0 < h.cand1 then 1 else 0) + if h.raw2 = h.q2 ∧ 0 < h.cand2 then 1 else 0 := by
  simp only [Head.glitches, glitch1_iff, glitch2_iff]

theorem clearGlitches_eq (h : Head) :
    h.clearGlitches = { h with
      cand1 := if h.raw1 = h.q1 ∧ 0 < h.cand1 then 0 else h.cand1
      cand2 := if h.raw2 = h.q2 ∧ 0 < h.cand2 then 0 else h.cand2 } := by
  simp only [Head.clearGlitches, glitch1_iff, glitch2_iff]

/-- A glitch is taken after the fault input, which is taken once (log 4). -/
theorem takeGlitch_eq (s : State) (d : DP) (hsome : s.heads[d].glitches ≠ 0) :
    s.takeGlitch d =
      let u := s.takeFaultInput d
      let bucket := min (u.heads[d].bucket + u.heads[d].glitches) u.image.globals.glitchLimit
      let t := u.setHead d { u.heads[d].clearGlitches with bucket := bucket }
      if (u.mode.running && u.heads[d].state.follows) = true then
        if u.image.globals.glitchLimit ≤ bucket then t.enterFault d .interference else t
      else u.setHead d u.heads[d].clearGlitches := if_neg hsome

/-- Where the fault input has acted and the head does not follow its pair, a glitch clears the candidate counts alone (R6, R17, R25). -/
theorem takeGlitch_alone {s : State} {d : DP} (hin : s.takeFaultInput d = s)
    (hnot : (s.mode.running && s.heads[d].state.follows) = false) : s.takeGlitch d = s.setHead d s.heads[d].clearGlitches := by
  by_cases hnone : s.heads[d].glitches = 0
  · rw [takeGlitch_of_none s d hnone, clearGlitches_of_none hnone, setHead_self]
  · rw [takeGlitch_eq s d hnone, hin]
    exact if_neg (by rw [hnot]; decide)

/-- Glitches that do not fill the bucket raise it (R6). -/
theorem takeGlitch_raises {s : State} {d : DP} (hsome : s.heads[d].glitches ≠ 0) (hin : s.heads[d].faultIn = false)
    (hfollows : (s.mode.running && s.heads[d].state.follows) = true)
    (hbelow : s.heads[d].bucket + s.heads[d].glitches < s.image.globals.glitchLimit) :
    s.takeGlitch d = s.setHead d { s.heads[d].clearGlitches with bucket := s.heads[d].bucket + s.heads[d].glitches } := by
  rw [takeGlitch_eq s d hsome, takeFaultInput_of_inactive s d hin]
  simp only
  rw [if_pos hfollows, Nat.min_eq_left hbelow.le, if_neg (Nat.not_le.mpr hbelow)]

/-- Glitches that fill the bucket are a fault of cause INTERFERENCE (R6, R8). -/
theorem takeGlitch_fills {s : State} {d : DP} (hsome : s.heads[d].glitches ≠ 0) (hin : s.heads[d].faultIn = false)
    (hfollows : (s.mode.running && s.heads[d].state.follows) = true)
    (hfull : s.image.globals.glitchLimit ≤ s.heads[d].bucket + s.heads[d].glitches) :
    s.takeGlitch d =
      (s.setHead d { s.heads[d].clearGlitches with bucket := s.image.globals.glitchLimit }).enterFault d .interference := by
  rw [takeGlitch_eq s d hsome, takeFaultInput_of_inactive s d hin]
  simp only
  rw [if_pos hfollows, Nat.min_eq_right hfull, if_pos (Nat.le_refl _)]

/-- Settles O13: the fault input first, and then the bucket of a following head or the candidate counts alone. -/
theorem glitchResult : Obligations.GlitchResult := by
  intro s d h g1 g2 n g limit
  have hn : h.glitches = n := glitches_eq h
  have hg : h.clearGlitches = g := clearGlitches_eq h
  rw [exec_glitch, ← hg]
  refine ⟨fun hnone => ?none, fun hpos hrun hin hfollows => ?bucket, fun hpos hnot => ?alone, fun hpos hrun hin => ?faulted⟩
  case none => rw [takeGlitch_of_none s d (hn.trans hnone)]
  case bucket =>
    have hsome : h.glitches ≠ 0 := by rw [hn]; exact Nat.pos_iff_ne_zero.mp hpos
    have hact : (s.mode.running && h.state.follows) = true := by rw [hrun, hfollows]; rfl
    rw [← hn]
    exact ⟨fun hbelow => by rw [takeGlitch_raises hsome hin hact hbelow], fun hfull => by rw [takeGlitch_fills hsome hin hact hfull]⟩
  case alone =>
    have hinput : s.takeFaultInput d = s :=
      hnot.elim (takeFaultInput_of_held s d) fun hfree => takeFaultInput_of_inactive s d hfree.1
    rw [takeGlitch_alone hinput]
    rcases hnot with hheld | ⟨_, hstays⟩
    · rw [hheld]; rfl
    · rw [hstays, Bool.and_false]
  case faulted =>
    have hsome : h.glitches ≠ 0 := by rw [hn]; exact Nat.pos_iff_ne_zero.mp hpos
    have hafter {u : State} (hu : s.takeFaultInput d = u) (hstate : u.heads[d].state = .fault) :
        s.takeGlitch d = u.setHead d u.heads[d].clearGlitches := by
      rw [takeGlitch_eq s d hsome, hu]
      exact if_neg (by rw [hstate]; simp [HeadState.follows])
    refine ⟨fun hstate => ?_, fun hstate => ?_⟩
    · intro u
      have hu : u.heads[d] = _ := heads_enterFault s d .frontEnd
      rw [hafter (takeFaultInput_of_active hrun hin hstate) (by rw [heads_enterFault]), hu]
      rfl
    · rw [hafter (takeFaultInput_of_fault hrun hin hstate) (by rw [heads_setHead_same]; exact hstate), heads_setHead_same,
        setHead_setHead]
      rfl

/-! ### Changes of the levels alone -/

theorem changed1_iff (h : Head) (qual : Nat) : h.changed1 qual = true ↔ h.raw1 ≠ h.q1 ∧ qual ≤ h.cand1 := by
  simp only [Head.changed1, Bool.and_eq_true, bne_iff_ne, decide_eq_true_eq]

theorem changed2_iff (h : Head) (qual : Nat) : h.changed2 qual = true ↔ h.raw2 ≠ h.q2 ∧ qual ≤ h.cand2 := by
  simp only [Head.changed2, Bool.and_eq_true, bne_iff_ne, decide_eq_true_eq]

theorem changeDue_iff (s : State) (d : DP) :
    s.changeDue d = true ↔ (s.heads[d].raw1 ≠ s.heads[d].q1 ∧ s.qual ≤ s.heads[d].cand1) ∨
      (s.heads[d].raw2 ≠ s.heads[d].q2 ∧ s.qual ≤ s.heads[d].cand2) := by
  rw [State.changeDue, Bool.or_eq_true, changed1_iff, changed2_iff]

theorem takeChange_of_not_due {s : State} {d : DP} (h : ¬ s.changeDue d = true) : s.takeChange d = s := by
  obtain ⟨h1, h2⟩ := Bool.or_eq_false_iff.mp (Bool.eq_false_iff.mpr h)
  exact takeChange_of_none s d h1 h2

/-- A change on a head that does not follow its pair, once the fault input has acted: the glitches are cleared and the levels move (R4, R17, R20,
R25). -/
theorem takeChange_alone {s u : State} {d : DP} (hdue : s.changeDue d = true) (hu : s.takeFaultInput d = u)
    (hnot : (u.mode.running && u.heads[d].state.follows) = false) :
    s.takeChange d = u.setHead d (u.heads[d].clearGlitches.requalify s.qual) := by
  have hagain : u.takeFaultInput d = u := by rw [← hu]; exact takeFaultInput_idem s d
  have hmode : s.mode = u.mode := by rw [← hu]; exact (takeFaultInput_onHead s d).1.mode.symm
  have hstill : (u.setHead d u.heads[d].clearGlitches).heads[d] = u.heads[d].clearGlitches := heads_setHead_same u d _
  rw [takeChange_of_due s d hdue, hu, takeGlitch_alone hagain hnot, hmode]
  simp only
  rw [hstill, setHead_setHead]
  exact if_neg (by rw [show u.heads[d].clearGlitches.state = u.heads[d].state from rfl, hnot]; decide)

/-- The glitches and the changes of a step touch the levels and the candidate counts, each channel by its own change (R3). -/
theorem requalify_clear_channels (h : Head) (qual : Nat) :
    ((h.changed1 qual = true → (h.clearGlitches.requalify qual).q1 = h.raw1 ∧ (h.clearGlitches.requalify qual).cand1 = 0) ∧
      (¬ h.changed1 qual = true → (h.clearGlitches.requalify qual).q1 = h.q1)) ∧
    ((h.changed2 qual = true → (h.clearGlitches.requalify qual).q2 = h.raw2 ∧ (h.clearGlitches.requalify qual).cand2 = 0) ∧
      (¬ h.changed2 qual = true → (h.clearGlitches.requalify qual).q2 = h.q2)) ∧
    (h.raw1 ≠ h.q1 ∧ ¬ h.changed1 qual = true → (h.clearGlitches.requalify qual).cand1 = h.cand1) ∧
    (h.raw2 ≠ h.q2 ∧ ¬ h.changed2 qual = true → (h.clearGlitches.requalify qual).cand2 = h.cand2) := by
  obtain ⟨hch1, hch2⟩ := changed_clearGlitches h qual
  obtain ⟨_, _, hkept1, hkept2⟩ := clearGlitches_cand h
  rw [← hch1, ← hch2]
  refine ⟨⟨fun hc => ?_, fun hc => ?_⟩, ⟨fun hc => ?_, fun hc => ?_⟩, fun ⟨hr, hc⟩ => ?_, fun ⟨hr, hc⟩ => ?_⟩
  · exact ⟨if_pos hc, if_pos hc⟩
  · exact if_neg hc
  · exact ⟨if_pos hc, if_pos hc⟩
  · exact if_neg hc
  · exact (if_neg hc).trans (hkept1 hr)
  · exact (if_neg hc).trans (hkept2 hr)

/-- Settles O12: the change alone, after the fault input where that acts. -/
theorem changeOfLevelsAlone : Obligations.ChangeOfLevelsAlone := by
  intro s d h c1 c2
  have hfault {u : State} (hstate : u.heads[d].state = .fault) : (u.mode.running && u.heads[d].state.follows) = false := by
    rw [hstate]; exact Bool.and_false _
  refine ⟨fun hdue hnot => ?alone, fun hdue hrun hin => ⟨fun hstate => ?unknown, fun hstate => ?fault⟩, fun hn1 hn2 => ?nothing⟩
  case alone =>
    have hinput : s.takeFaultInput d = s :=
      hnot.elim (takeFaultInput_of_held s d) fun hfree => takeFaultInput_of_inactive s d hfree.1
    have hstays : (s.mode.running && s.heads[d].state.follows) = false := by
      rcases hnot with hheld | ⟨_, hstate | hstate⟩
      · rw [hheld]; rfl
      · rw [show s.heads[d].state = .unknown from hstate]; exact Bool.and_false _
      · exact hfault hstate
    have htake := takeChange_alone ((changeDue_iff s d).mpr hdue) hinput hstays
    refine ⟨_, exec_qualifiedChange d s, ?_⟩
    rw [htake, heads_setHead_same]
    obtain ⟨hone, htwo, hkept1, hkept2⟩ := requalify_clear_channels s.heads[d] s.qual
    rw [changed1_iff] at hone hkept1
    rw [changed2_iff] at htwo hkept2
    exact ⟨rfl, rfl, hone.1, hone.2, htwo.1, htwo.2, hkept1, hkept2⟩
  case unknown =>
    have hne : s.heads[d].state ≠ .fault := by rw [show s.heads[d].state = .unknown from hstate]; decide
    rw [exec_qualifiedChange, takeChange_alone ((changeDue_iff s d).mpr hdue) (takeFaultInput_of_active hrun hin hne)
      (hfault (by rw [heads_enterFault]))]
  case fault =>
    have htake := takeChange_alone ((changeDue_iff s d).mpr hdue) (takeFaultInput_of_fault hrun hin hstate)
      (hfault (by rw [heads_setHead_same]; exact hstate))
    rw [exec_qualifiedChange, htake, heads_setHead_same, setHead_setHead]
  case nothing =>
    rw [exec_qualifiedChange, takeChange_of_not_due]
    rw [changeDue_iff]
    exact fun hdue => hdue.elim hn1 hn2

end Sys2Proof.Machine
end

section
/-! PROOFS. What a qualified change does to a head that follows its pair (R10 to R15): a departure, a move within a passage, a withdrawal, a counting
return, or a fault; and what comes before it at its step (R13, log 4). -/

namespace Sys2Proof.Machine

/-! ### A change with nothing before it -/

/-- With the fault input inactive and no glitch, the levels move and then the head, by both changes or by one (R10 to R13). -/
theorem takeChange_of_quiet {s : State} {d : DP} (hdue : s.changeDue d = true) (hrun : s.mode.running = true)
    (hfollows : s.heads[d].state.follows = true) (hin : s.heads[d].faultIn = false) (hnone : s.heads[d].glitches = 0) :
    s.takeChange d =
      if (s.heads[d].changed1 s.qual && s.heads[d].changed2 s.qual) = true then
        (s.setHead d (s.heads[d].requalify s.qual)).enterFault d .transition
      else (s.setHead d (s.heads[d].requalify s.qual)).followPair d := by
  rw [takeChange_of_due s d hdue, takeFaultInput_of_inactive s d hin, takeGlitch_of_none s d hnone]
  exact if_pos (by rw [hrun, hfollows]; rfl)

/-- A single change is due and is not both. -/
theorem single_change {a b : Bool} (h : (a != b) = true) : (a || b) = true ∧ (a && b) = false := by
  revert h; cases a <;> cases b <;> decide

/-- A single change with nothing before it moves the head by its pair (R10 to R12, R14). -/
theorem exec_single_change {s : State} {d : DP} (hone : (s.heads[d].changed1 s.qual != s.heads[d].changed2 s.qual) = true)
    (hrun : s.mode.running = true) (hfollows : s.heads[d].state.follows = true) (hin : s.heads[d].faultIn = false)
    (hnone : s.heads[d].glitches = 0) :
    exec (.qualifiedChange d) s = .next ((s.setHead d (s.heads[d].requalify s.qual)).followPair d) := by
  obtain ⟨hdue, hnotBoth⟩ := single_change hone
  rw [exec_qualifiedChange, takeChange_of_quiet hdue hrun hfollows hin hnone, hnotBoth]
  rfl

/-! ### The rows of the pair's table -/

/-- The rows of R11 and R12 within a passage: the state, the pair it meets, the state it moves to. -/
def passageRows : List (HeadState × (Bool × Bool) × HeadState) :=
  [(.n1, (true, true), .n2), (.n2, (false, true), .n3), (.n2, (true, false), .n1), (.n3, (true, true), .n2),
    (.r2, (true, true), .r3), (.r3, (true, false), .r4), (.r3, (false, true), .r2), (.r4, (true, true), .r3)]

theorem passageRows_follow : ∀ m ∈ passageRows, m.1.follows = true := by decide

theorem followPair_row {s : State} {d : DP} {m : HeadState × (Bool × Bool) × HeadState} (hm : m ∈ passageRows)
    (hx : s.heads[d].state = m.1) (hpair : (s.heads[d].q1, s.heads[d].q2) = m.2.1) : s.followPair d = s.moveTo d m.2.2 := by
  simp only [passageRows, List.mem_cons, List.not_mem_nil, or_false] at hm
  obtain rfl | rfl | rfl | rfl | rfl | rfl | rfl | rfl := hm
  all_goals
    obtain ⟨h1, h2⟩ := Prod.mk.inj hpair
    unfold State.followPair
    rw [hx, h1, h2]

/-- From FREE the channel that changed decides the state of the departure (R10). -/
theorem followPair_departs {s : State} {d : DP} {x : HeadState} (hx : x = .n1 ∨ x = .r2) (hfree : s.heads[d].state = .free)
    (hpair : x.pair = some (s.heads[d].q1, s.heads[d].q2)) : s.followPair d = s.depart d x := by
  obtain rfl | rfl := hx
  all_goals
    obtain ⟨h1, h2⟩ := Prod.mk.inj (Option.some.inj hpair)
    unfold State.followPair
    rw [hfree, ← h1, ← h2]

/-- From N1 or R2 back to (0,0) (R11, R12). -/
theorem followPair_withdraws {s : State} {d : DP} (hstate : s.heads[d].state = .n1 ∨ s.heads[d].state = .r2)
    (hpair : (s.heads[d].q1, s.heads[d].q2) = (false, false)) : s.followPair d = s.withdrawHead d := by
  obtain ⟨h1, h2⟩ := Prod.mk.inj hpair
  unfold State.followPair
  obtain hstate | hstate := hstate <;> rw [hstate, h1, h2]

/-- From N3 or R4 back to (0,0) (R14). -/
theorem followPair_counts {s : State} {d : DP} {m : HeadState × Dir} (hm : m = (.n3, .n) ∨ m = (.r4, .r))
    (hstate : s.heads[d].state = m.1) (hpair : (s.heads[d].q1, s.heads[d].q2) = (false, false)) :
    s.followPair d = s.countingReturn d m.2 := by
  obtain ⟨h1, h2⟩ := Prod.mk.inj hpair
  unfold State.followPair
  obtain rfl | rfl := hm <;> rw [hstate, h1, h2]

theorem moveTo_setHead (s : State) (d : DP) (g : Head) (x : HeadState) :
    (s.setHead d g).moveTo d x = s.setHead d { g with state := x } := by
  unfold State.moveTo
  rw [heads_setHead_same, setHead_setHead]

theorem withdrawHead_setHead (s : State) (d : DP) (g : Head) :
    (s.setHead d g).withdrawHead d =
      s.setHead d { g with state := .free, passageStart := none, outbox := g.outbox ++ [.classChange .free] } := by
  unfold State.withdrawHead
  rw [heads_setHead_same, setHead_setHead]
  rfl

/-- Settles O9: a single change reads its row at the head with its new pair. -/
theorem passageMoves : Obligations.PassageMoves := by
  intro s d h g hrun hin hnone hone
  have hexec (hfollows : h.state.follows = true) : exec (.qualifiedChange d) s = .next ((s.setHead d g).followPair d) :=
    exec_single_change hone hrun hfollows hin hnone
  have hget : (s.setHead d g).heads[d] = g := heads_setHead_same s d g
  refine ⟨fun m hm hstate hpair => ?moves, fun hstate hpair => ?withdraws⟩
  case moves =>
    have hrow : (s.setHead d g).followPair d = (s.setHead d g).moveTo d m.2.2 :=
      followPair_row hm (by rw [hget]; exact hstate) (by rw [hget]; exact hpair)
    rw [hexec (by rw [hstate]; exact passageRows_follow m hm), hrow, moveTo_setHead]
  case withdraws =>
    have hfollows : h.state.follows = true := by rcases hstate with hstate | hstate <;> rw [hstate] <;> rfl
    have hrow : (s.setHead d g).followPair d = (s.setHead d g).withdrawHead d :=
      followPair_withdraws (by rw [hget]; exact hstate) (by rw [hget]; exact hpair)
    rw [hexec hfollows, hrow, withdrawHead_setHead]
    rfl

/-! ### Departures -/

theorem tooClose_iff (s : State) (h : Head) :
    s.tooClose h = true ↔
      ∃ a, h.lastAxle = some a ∧ s.image.globals.minFree ≠ 0 ∧ s.stepNo - a < s.image.globals.minFree * 10 := by
  unfold State.tooClose
  cases h.lastAxle with
  | none => simp
  | some a => simp

theorem depart_of_close {s : State} {d : DP} (x : HeadState) (h : s.tooClose s.heads[d] = true) :
    s.depart d x = s.enterFault d .tooFast := if_pos h

theorem depart_of_apart {s : State} {d : DP} {g : Head} (x : HeadState) (h : ¬ s.tooClose g = true) :
    (s.setHead d g).depart d x = s.setHead d
      { g with state := x, passageStart := some s.stepNo, outbox := g.outbox ++ [.classChange .notFree] } := by
  have hget : (s.setHead d g).heads[d] = g := heads_setHead_same s d g
  have hapart : ¬ (s.setHead d g).tooClose (s.setHead d g).heads[d] = true := by rw [hget]; exact h
  refine (if_neg hapart).trans ?_
  rw [hget, setHead_setHead]
  rfl

/-- A departure from a pair at (0,0), into the state of the channel that changed (R10, R15). -/
theorem departure_cases {s : State} {d : DP} {g : Head} {x : HeadState}
    (hexec : exec (.qualifiedChange d) s = .next ((s.setHead d g).depart d x)) (hlast : g.lastAxle = s.heads[d].lastAxle) :
    let close := ∃ a, s.heads[d].lastAxle = some a ∧ s.image.globals.minFree ≠ 0 ∧ s.stepNo - a < s.image.globals.minFree * 10
    (¬ close → exec (.qualifiedChange d) s = .next (s.setHead d
        { g with state := x, passageStart := some s.stepNo, outbox := g.outbox ++ [.classChange .notFree] })) ∧
      (close → exec (.qualifiedChange d) s = .next ((s.setHead d g).enterFault d .tooFast)) := by
  intro close
  have hclose : s.tooClose g = true ↔ close := by rw [tooClose_iff, hlast]
  rw [hexec]
  refine ⟨fun hapart => ?_, fun hnear => ?_⟩
  · rw [depart_of_apart x fun h => hapart (hclose.mp h)]
  · rw [depart_of_close]
    rw [heads_setHead_same]
    exact hclose.mpr hnear

/-- A single change of channel 1 from (0,0) takes its level to damped (R3). -/
theorem requalify_single1 {h : Head} {qual : Nat} (hq : h.q1 = false) (h1 : h.changed1 qual = true) (h2 : h.changed2 qual = false) :
    h.requalify qual = { h with q1 := true, cand1 := 0 } := by
  have hraw : h.raw1 = true := by
    have hne := ((changed1_iff h qual).mp h1).1
    rw [hq] at hne
    exact Bool.eq_true_of_not_eq_false hne
  simp [Head.requalify, h1, h2, hraw]

theorem requalify_single2 {h : Head} {qual : Nat} (hq : h.q2 = false) (h1 : h.changed1 qual = false) (h2 : h.changed2 qual = true) :
    h.requalify qual = { h with q2 := true, cand2 := 0 } := by
  have hraw : h.raw2 = true := by
    have hne := ((changed2_iff h qual).mp h2).1
    rw [hq] at hne
    exact Bool.eq_true_of_not_eq_false hne
  simp [Head.requalify, h1, h2, hraw]

/-- Settles O8: the single change reads the row of FREE for its channel, which is a departure. -/
theorem departureResult : Obligations.DepartureResult := by
  intro s d h hrun hstate hq1 hq2 hin hnone close
  have hfollows : h.state.follows = true := by rw [hstate]; rfl
  refine ⟨fun h1 h2 => ?channel1, fun h1 h2 => ?channel2⟩
  case channel1 =>
    intro g
    have hget : (s.setHead d g).heads[d] = g := heads_setHead_same s d g
    have hexec := exec_single_change (s := s) (d := d) (by rw [h1, h2]; rfl) hrun hfollows hin hnone
    rw [requalify_single1 hq1 h1 h2, followPair_departs (.inl rfl) (by rw [hget]; exact hstate)
      (by rw [hget]; exact congrArg (fun b => some (true, b)) hq2.symm)] at hexec
    exact departure_cases hexec rfl
  case channel2 =>
    intro g
    have hget : (s.setHead d g).heads[d] = g := heads_setHead_same s d g
    have hexec := exec_single_change (s := s) (d := d) (by rw [h1, h2]; rfl) hrun hfollows hin hnone
    rw [requalify_single2 hq2 h1 h2, followPair_departs (.inr rfl) (by rw [hget]; exact hstate)
      (by rw [hget]; exact congrArg (fun b => some (b, true)) hq1.symm)] at hexec
    exact departure_cases hexec rfl

/-! ### Counting returns -/

theorem duration_of_passage {s : State} {h : Head} {p : Nat} (hp : h.passageStart = some p) : s.duration h = s.stepNo - p := by
  unfold State.duration
  rw [hp]

/-- A counting return after a passage from step p (R14, R15). -/
theorem countingReturn_setHead (s : State) (d : DP) (g : Head) (dir : Dir) {p : Nat} (hp : g.passageStart = some p) :
    (s.setHead d g).countingReturn d dir =
      if s.stepNo - p < s.image.globals.minPassage then (s.setHead d g).enterFault d .tooFast
      else s.setHead d { g with
        state := .free, lastAxle := some s.stepNo, passageStart := none
        outbox := g.outbox ++ [.axle ⟨d, dir, s.stamp⟩, .classChange .free] } := by
  unfold State.countingReturn
  simp only
  rw [heads_setHead_same, duration_of_passage hp, setHead_setHead]
  rfl

/-- Settles O10: the single change reads the row of N3 or R4 at (0,0), which is a counting return. -/
theorem countingReturnResult : Obligations.CountingReturnResult := by
  intro s d p h g hrun hin hnone hone hpair hp m hm hstate
  have hget : (s.setHead d g).heads[d] = g := heads_setHead_same s d g
  have hrows : m = (.n3, .n) ∨ m = (.r4, .r) := by simpa using hm
  have hfollows : h.state.follows = true := by rw [hstate]; rcases hrows with rfl | rfl <;> rfl
  have hrow : (s.setHead d g).followPair d = (s.setHead d g).countingReturn d m.2 :=
    followPair_counts hrows (by rw [hget]; exact hstate) (by rw [hget]; exact hpair)
  have hexec : exec (.qualifiedChange d) s = .next ((s.setHead d g).countingReturn d m.2) := by
    rw [exec_single_change hone hrun hfollows hin hnone, ← hrow]
  rw [hexec, countingReturn_setHead s d g m.2 hp]
  refine ⟨fun hlong => ?_, fun hshort => ?_⟩
  · rw [if_neg (Nat.not_lt.mpr hlong)]
    rfl
  · rw [if_pos hshort]

/-! ### A change with other events at its step -/

/-- Two changes at once leave no glitch (R3). -/
theorem glitches_of_both {h : Head} {qual : Nat} (h1 : h.changed1 qual = true) (h2 : h.changed2 qual = true) : h.glitches = 0 := by
  unfold Head.glitches
  rw [not_glitch1_of_changed1 h qual h1, not_glitch2_of_changed2 h qual h2]
  rfl

/-- A glitch that fills the bucket first: the head is in FAULT, and the change moves the levels alone (R4, R8; log 4). -/
theorem takeChange_after_fill {s : State} {d : DP} (hdue : s.changeDue d = true) (hact : (s.mode.running && s.heads[d].state.follows) = true)
    (hin : s.heads[d].faultIn = false) (hsome : s.heads[d].glitches ≠ 0)
    (hfull : s.image.globals.glitchLimit ≤ s.heads[d].bucket + s.heads[d].glitches) :
    let u := (s.setHead d { s.heads[d].clearGlitches with bucket := s.image.globals.glitchLimit }).enterFault d .interference
    s.takeChange d = u.setHead d (u.heads[d].requalify s.qual) := by
  intro u
  have hfault : u.heads[d].state = .fault := by
    have hget : u.heads[d] = _ := heads_enterFault _ d .interference
    rw [hget]
  rw [takeChange_of_due s d hdue, takeFaultInput_of_inactive s d hin, takeGlitch_fills hsome hin hact hfull]
  exact if_neg (by rw [hfault]; simp [HeadState.follows])

/-- A glitch that only raises the bucket first: the change follows as on the head with the raised bucket (R3, R6). -/
theorem takeChange_after_raise {s : State} {d : DP} (hdue : s.changeDue d = true) (hact : (s.mode.running && s.heads[d].state.follows) = true)
    (hin : s.heads[d].faultIn = false) (hsome : s.heads[d].glitches ≠ 0)
    (hbelow : s.heads[d].bucket + s.heads[d].glitches < s.image.globals.glitchLimit) :
    s.takeChange d =
      (s.setHead d { s.heads[d].clearGlitches with bucket := s.heads[d].bucket + s.heads[d].glitches }).takeChange d := by
  have hraise := takeGlitch_raises hsome hin hact hbelow
  obtain ⟨hch1, hch2⟩ := changed_clearGlitches s.heads[d] s.qual
  have hclear : (s.setHead d { s.heads[d].clearGlitches with bucket := s.heads[d].bucket + s.heads[d].glitches }).heads[d] = _ :=
    heads_setHead_same s d _
  generalize hu : s.setHead d { s.heads[d].clearGlitches with bucket := s.heads[d].bucket + s.heads[d].glitches } = u at hraise hclear ⊢
  have hqual : u.qual = s.qual := by rw [← hu]; rfl
  have hmode : u.mode = s.mode := by rw [← hu]; rfl
  have hsame1 : u.heads[d].changed1 u.qual = s.heads[d].changed1 s.qual := by rw [hclear, hqual]; exact hch1
  have hsame2 : u.heads[d].changed2 u.qual = s.heads[d].changed2 s.qual := by rw [hclear, hqual]; exact hch2
  have hdue' : u.changeDue d = true := by unfold State.changeDue; rw [hsame1, hsame2]; exact hdue
  have hin' : u.heads[d].faultIn = false := by rw [hclear]; exact hin
  have hnone' : u.heads[d].glitches = 0 := by rw [hclear]; exact clearGlitches_glitches s.heads[d]
  rw [takeChange_of_due s d hdue, takeChange_of_due u d hdue', takeFaultInput_of_inactive s d hin, takeFaultInput_of_inactive u d hin',
    takeGlitch_of_none u d hnone', hraise, hsame1, hsame2, hqual, hmode]

/-- Settles O11: what comes before the change decides whether the head is still following its pair when the levels move. -/
theorem changeWithOtherEvents : Obligations.ChangeWithOtherEvents := by
  intro s d h limit hrun hfollows hdue
  have hact : (s.mode.running && h.state.follows) = true := by rw [hrun, hfollows]; rfl
  refine ⟨fun h1 h2 hin => ?both, fun hin => ?fault, fun hin hpos hfull => ?fills, fun hin hpos hbelow => ?raises⟩
  case both =>
    rw [exec_qualifiedChange, takeChange_of_quiet hdue hrun hfollows hin (glitches_of_both h1 h2), if_pos]
    rw [h1, h2]; rfl
  case fault =>
    have hne : h.state ≠ .fault := fun hf => by rw [hf] at hfollows; cases hfollows
    rw [exec_qualifiedChange, takeChange_alone hdue (takeFaultInput_of_active hrun hin hne)]
    rw [heads_enterFault]; exact Bool.and_false _
  case fills => exact congrArg Host.Outcome.next (takeChange_after_fill hdue hact hin (Nat.pos_iff_ne_zero.mp hpos) hfull)
  case raises => exact congrArg Host.Outcome.next (takeChange_after_raise hdue hact hin (Nat.pos_iff_ne_zero.mp hpos) hbelow)

end Sys2Proof.Machine
end

section
/-! PROOFS. What the Counting Engine makes of what the heads hand on (R42 to R56, R62, R70 to R75) and of the occupancy history (R91 to R93). -/

namespace Sys2Proof.Machine

/-! ### The terms of an applied event -/

/-- The terms of an entry that names no section twice act independently of one another (R43, R53, R115). -/
theorem applyTerms_eq (d : DP) (dir : Dir) (ts : List Term) (s : State) (hnodup : (ts.map (·.sect)).Nodup)
    (hused : ∀ t ∈ ts, s.used t.sect = true) :
    ∃ v w, ts.foldl (State.applyTerm d dir) s =
        State.asks { s with sects := v, records := w } (fun l => ts.flatMap fun t => s.termAsks d dir t l) ∧
      (∀ t ∈ ts, v[t.sect] = (s.counted d dir t).touchHistory s.periodCounter) ∧
      (∀ k : SectNo, k ∉ ts.map (·.sect) → v[k] = s.sects[k]) ∧
      ∀ k : SectNo, w[k] = if k ∈ ts.map (·.sect) then none else s.records[k] := by
  induction ts generalizing s with
  | nil => exact ⟨s.sects, s.records, (asks_nil s).symm, fun t ht => absurd ht List.not_mem_nil, fun _ _ => rfl, fun _ => rfl⟩
  | cons t ts ih =>
    obtain ⟨hnotin, hrest⟩ : t.sect ∉ ts.map (·.sect) ∧ (ts.map (·.sect)).Nodup := List.nodup_cons.mp hnodup
    have hfirst := applyTerm_of_used d dir s t (hused t List.mem_cons_self)
    rw [List.foldl_cons]
    generalize State.applyTerm d dir s t = u at hfirst ⊢
    have hsect (k : SectNo) (hne : k ≠ t.sect) : u.sects[k] = s.sects[k] := by rw [hfirst]; exact sects_setSect_ne s t.sect k _ hne
    have hrecord (k : SectNo) (hne : k ≠ t.sect) : u.records[k] = s.records[k] := by
      rw [hfirst]; exact records_setRecord_ne s t.sect k none hne
    have hne (x : Term) (hx : x ∈ ts) : x.sect ≠ t.sect := fun he =>
      hnotin (he ▸ List.mem_map_of_mem (f := fun y : Term => y.sect) hx)
    have hcounted (x : Term) (hx : x ∈ ts) : u.counted d dir x = s.counted d dir x := by
      unfold State.counted
      rw [hsect x.sect (hne x hx), hfirst]
      rfl
    have hasks (x : Term) (hx : x ∈ ts) (l : SupLink) : u.termAsks d dir x l = s.termAsks d dir x l := by
      unfold State.termAsks
      rw [hcounted x hx, hsect x.sect (hne x hx), hrecord x.sect (hne x hx), hfirst]
      rfl
    obtain ⟨v, w, hfold, hnamed, hother, hgone⟩ := ih u hrest fun x hx => by
      rw [hfirst]; exact hused x (List.mem_cons_of_mem t hx)
    have hperiod : u.periodCounter = s.periodCounter := by rw [hfirst]; rfl
    refine ⟨v, w, ?_, fun x hx => ?_, fun k hk => ?_, fun k => ?_⟩
    · have hlists : (fun l => ts.flatMap fun x => u.termAsks d dir x l) = fun l => ts.flatMap fun x => s.termAsks d dir x l :=
        funext fun l => List.flatMap_congr fun x hx => hasks x hx l
      rw [hfold, hlists, hfirst]
      exact asks_asks { s with sects := v, records := w } (s.termAsks d dir t) _
    · rcases List.mem_cons.mp hx with rfl | hx
      · rw [hother x.sect hnotin, hfirst]
        exact sects_setSect_same s x.sect _
      · rw [hnamed x hx, hcounted x hx, hperiod]
    · obtain ⟨hkt, hkts⟩ : k ≠ t.sect ∧ k ∉ ts.map (·.sect) := not_or.mp fun hc => hk (List.mem_cons.mpr hc)
      rw [hother k hkts, hsect k hkt]
    · rw [hgone k]
      by_cases hk : k = t.sect
      · subst hk
        have hdropped : u.records[t.sect] = none := by rw [hfirst]; exact records_setRecord_same s t.sect none
        simp [hnotin, hdropped]
      · simp [hk, hrecord k hk]

theorem countsIn_eq_inwardBy (sense : Sense) (dir : Dir) : countsIn sense dir = inwardBy sense dir := by
  cases sense <;> cases dir <;> rfl

theorem setNotice_asked (n : Notice) (x : Sup) (a : List Notice) :
    ({ x with asked := a } : Sup).setNotice n = { x.setNotice n with asked := a } := by
  have hnoticed : ({ x with asked := a } : Sup).noticed n = x.noticed n := rfl
  cases h : x.noticed n with
  | true => rw [setNotice_of_set n x h, setNotice_of_set n _ (hnoticed.trans h)]
  | false =>
    obtain m | m : x.attnMode = .level ∨ x.attnMode = .pulse := by cases x.attnMode <;> simp
    · rw [setNotice_level n x h m, setNotice_level n _ (hnoticed.trans h) m]
    · rw [setNotice_pulse n x h m, setNotice_pulse n _ (hnoticed.trans h) m]
      change (if x.masked n = true then _ else _) = _
      split <;> rfl

/-- A ring that is offered an event does not look at the notices asked for. -/
theorem offer_asked (e : AxleEvent) (x : Sup) (a : List Notice) :
    ({ x with asked := a } : Sup).offer e = { x.offer e with asked := a } := by
  unfold Sup.offer
  simp only
  split
  · exact setNotice_asked .ringGap { x with seq := x.seq + 1#8, gap := true } a
  · split
    · exact setNotice_asked .ringHalf { x with seq := x.seq + 1#8, ring := x.ring ++ [⟨x.seq, e.dp, e.dir, e.stamp⟩] } a
    · rfl

/-- A controller after an applied event: the ring of a routed link is offered it, and the notices are asked for (R53, R56). -/
theorem handOff_sup (s : State) (e : AxleEvent) (on : LinkSet) (a : SupLink → List Notice) (l : SupLink) :
    ((s.asks a).handOff e on).sup l =
      { (if on.has l = true then (s.sup l).offer e else s.sup l) with asked := (s.sup l).asked ++ a l } := by
  rw [handOff_eq]
  cases l with
  | sl0 =>
    change (if on.sl0 = true then Sup.offer e { s.lc0 with asked := s.lc0.asked ++ a .sl0 } else _) =
      { (if on.sl0 = true then s.lc0.offer e else s.lc0) with asked := s.lc0.asked ++ a .sl0 }
    cases on.sl0
    · rfl
    · exact offer_asked e s.lc0 _
  | sl1 =>
    change (if on.sl1 = true then Sup.offer e { s.lc1 with asked := s.lc1.asked ++ a .sl1 } else _) =
      { (if on.sl1 = true then s.lc1.offer e else s.lc1) with asked := s.lc1.asked ++ a .sl1 }
    cases on.sl1
    · rfl
    · exact offer_asked e s.lc1 _

/-! ### Taking an axle event -/

theorem exec_axleEvent (d : DP) (read1 read2 : MapRead) (s : State) :
    exec (.axleEvent d read1 read2) s = .next (s.takeAxle d read1 read2) := rfl

theorem takeAxle_of_counting {s : State} {d : DP} {e : AxleEvent} {rest : List HandedOn} (read1 read2 : MapRead)
    (hmode : s.mode = .counting) (hbox : s.heads[d].outbox = .axle e :: rest) :
    s.takeAxle d read1 read2 = (s.setHead d { s.heads[d] with outbox := rest }).applyAxle e read1 read2 := by
  unfold State.takeAxle
  rw [hbox]
  exact if_pos hmode

theorem takeAxle_of_not_counting {s : State} {d : DP} {e : AxleEvent} {rest : List HandedOn} (read1 read2 : MapRead)
    (hmode : s.mode ≠ .counting) (hbox : s.heads[d].outbox = .axle e :: rest) :
    s.takeAxle d read1 read2 = s.setHead d { s.heads[d] with outbox := rest } := by
  unfold State.takeAxle
  rw [hbox]
  exact if_neg hmode

theorem takeAxle_of_no_axle {s : State} {d : DP} (read1 read2 : MapRead) (h : ∀ e rest, s.heads[d].outbox ≠ .axle e :: rest) :
    s.takeAxle d read1 read2 = s := by
  unfold State.takeAxle
  split
  case h_1 e rest hbox => exact absurd hbox (h e rest)
  case h_2 | h_3 => rfl

theorem applyAxle_of_first {s : State} {e : AxleEvent} {read1 : MapRead} (read2 : MapRead) (h : s.readPasses e.dp read1 = true) :
    s.applyAxle e read1 read2 = s.applyEvent e (s.readEntry e.dp read1).1.terms := if_pos h

/-- A second read that passes applies the event as a first one would, and counts a soft error (R37 to R39, R126, R127). -/
theorem applyAxle_of_second {s : State} {e : AxleEvent} {read1 read2 : MapRead} (h1 : ¬ s.readPasses e.dp read1 = true)
    (h2 : s.readPasses e.dp read2 = true) (hmode : s.mode = .counting) :
    s.applyAxle e read1 read2 =
      let t : State := { s.applyEvent e (s.readEntry e.dp read2).1.terms with softErrors := s.softErrors + 1 }
      if s.image.globals.softLimit ≤ s.softErrors + 1 then t.enterHalted .softLimit else t := by
  obtain ⟨v, w, x, y, hframe⟩ := applyEvent_frame s e (s.readEntry e.dp read2).1.terms
  unfold State.applyAxle
  rw [if_neg h1, if_pos h2, applyEvent_softErrors]
  generalize s.applyEvent e (s.readEntry e.dp read2).1.terms = t at hframe ⊢
  have hcounting : t.mode = .counting := by rw [hframe]; exact hmode
  simp only
  rw [raiseHalt_of_counting { t with softErrors := s.softErrors + 1 } .softLimit hcounting]

theorem applyAxle_of_neither {s : State} {e : AxleEvent} {read1 read2 : MapRead} (h1 : ¬ s.readPasses e.dp read1 = true)
    (h2 : ¬ s.readPasses e.dp read2 = true) (hmode : s.mode = .counting) :
    s.applyAxle e read1 read2 = s.enterHalted .mapHard := by
  unfold State.applyAxle
  rw [if_neg h1, if_neg h2, raiseHalt_of_counting s _ hmode]

theorem readPasses_intact {s : State} {d : DP} (h : s.codes[d] = some (entryCode d s.image.map[d])) :
    s.readPasses d .intact = true := decide_eq_true h

theorem not_readPasses_altered {d : DP} {entry : MapEntry} {code : Byte} (s : State) (h : code ≠ entryCode d entry) :
    ¬ s.readPasses d (.altered entry code) = true := fun hpass => h (Option.some.inj (of_decide_eq_true hpass))

/-- Settles O18: the terms act one by one on sections of their own, and the rings are offered the event. -/
theorem appliedAxleResult : Obligations.AppliedAxleResult := by
  intro s d e rest read2 ts after hmode hbox hcode hnodup hused
  have hexec : exec (.axleEvent d .intact read2) s = .next ((s.setHead d { s.heads[d] with outbox := rest }).applyEvent e ts) := by
    have hpass : (s.setHead d { s.heads[d] with outbox := rest }).readPasses e.dp .intact = true := readPasses_intact hcode
    rw [exec_axleEvent, takeAxle_of_counting _ _ hmode hbox, applyAxle_of_first read2 hpass]
    rfl
  obtain ⟨v, w, hfold, hnamed, hother, hgone⟩ :=
    applyTerms_eq e.dp e.dir ts (s.setHead d { s.heads[d] with outbox := rest }) hnodup hused
  have hafter (x : Term) : (s.setHead d { s.heads[d] with outbox := rest }).counted e.dp e.dir x = after x := by
    unfold State.counted
    rw [countsIn_eq_inwardBy]
    rfl
  refine ⟨_, hexec, ?_⟩
  unfold State.applyEvent
  rw [hfold]
  have hsup := handOff_sup { s.setHead d { s.heads[d] with outbox := rest } with sects := v, records := w } e s.routing[e.dp]
    (fun l => ts.flatMap fun t => (s.setHead d { s.heads[d] with outbox := rest }).termAsks e.dp e.dir t l)
  have hframe := handOff_eq (State.asks { s.setHead d { s.heads[d] with outbox := rest } with sects := v, records := w }
    (fun l => ts.flatMap fun t => (s.setHead d { s.heads[d] with outbox := rest }).termAsks e.dp e.dir t l)) e s.routing[e.dp]
  refine ⟨fun x hx => ?named, fun k hk => ?other, fun k => ?gone, fun l => ?asked, ?frame⟩
  case named =>
    rw [handOff_eq, ← hafter x]
    exact hnamed x hx
  case other =>
    rw [handOff_eq]
    exact hother k hk
  case gone =>
    rw [handOff_eq]
    exact hgone k
  case frame => rw [handOff_eq]; rfl
  case asked =>
    refine (hsup l).trans ?_
    have hlist : (ts.flatMap fun t => (s.setHead d { s.heads[d] with outbox := rest }).termAsks e.dp e.dir t l) =
        ts.flatMap fun y => s.lapses y.sect l ++
          (if (after y).state ≠ s.sects[y.sect].state ∧ s.supervises l y.sect = true then [.change] else []) ++
          (if y.notify = true ∧ s.supervises l y.sect = true then [.selected] else []) := by
      refine List.flatMap_congr fun y _ => ?_
      unfold State.termAsks
      rw [hafter y, ← lapse_eq_lapses]
      rfl
    rw [hlist]
    rfl

/-- Settles O19: the event is taken without effect, or applied on its second read, or lost with the halt. -/
theorem unappliedAxleResult : Obligations.UnappliedAxleResult := by
  refine ⟨fun s d read1 read2 => ⟨fun e rest hbox hmode => ?outside, fun hnone => ?none⟩,
    fun s d e rest entry1 code1 read2 hmode hbox hcode1 => ⟨fun hpass => ?second, fun entry2 code2 hcode2 => ?neither⟩⟩
  case outside => rw [exec_axleEvent, takeAxle_of_not_counting _ _ hmode hbox]
  case none => rw [exec_axleEvent, takeAxle_of_no_axle _ _ hnone]
  case second =>
    have hfail := not_readPasses_altered (s.setHead d { s.heads[d] with outbox := rest }) hcode1
    have hpass' : (s.setHead d { s.heads[d] with outbox := rest }).readPasses e.dp read2 = true := hpass
    obtain ⟨v, w, x, y, hframe⟩ := applyEvent_frame (s.setHead d { s.heads[d] with outbox := rest }) e
      ((s.setHead d { s.heads[d] with outbox := rest }).readEntry e.dp read2).1.terms
    have hsecond := applyAxle_of_second hfail hpass' hmode
    refine ⟨_, exec_axleEvent d read2 read2 s, ?_, fun hbelow => ?_, fun hlimit => ?_⟩
    · rw [takeAxle_of_counting _ _ hmode hbox, applyAxle_of_first read2 hpass', hframe]
      rfl
    · rw [exec_axleEvent, takeAxle_of_counting _ _ hmode hbox, takeAxle_of_counting _ _ hmode hbox, applyAxle_of_first read2 hpass',
        hsecond]
      exact congrArg Host.Outcome.next (if_neg (Nat.not_le.mpr hbelow))
    · rw [exec_axleEvent, takeAxle_of_counting _ _ hmode hbox, takeAxle_of_counting _ _ hmode hbox, applyAxle_of_first read2 hpass',
        hsecond]
      exact congrArg Host.Outcome.next (if_pos hlimit)
  case neither =>
    rw [exec_axleEvent, takeAxle_of_counting _ _ hmode hbox, applyAxle_of_neither (not_readPasses_altered _ hcode1)
      (not_readPasses_altered _ hcode2)]
    exact hmode

/-! ### Class changes -/

theorem takeClass_of_change {s : State} {d : DP} {c : HeadClass} {rest : List HandedOn}
    (hbox : s.heads[d].outbox = .classChange c :: rest) :
    s.takeClass d = (s.setHead d { s.heads[d] with outbox := rest }).applyClass d c := by
  unfold State.takeClass
  rw [hbox]

theorem takeClass_of_no_change {s : State} {d : DP} (h : ∀ c rest, s.heads[d].outbox ≠ .classChange c :: rest) : s.takeClass d = s := by
  unfold State.takeClass
  split
  case h_1 c rest hbox => exact absurd hbox (h c rest)
  case h_2 | h_3 => rfl

theorem leaveFree_eq (x : Sect) :
    x.leaveFree =
      if x.state = .clear then { x with state := .settling, settle := none }
      else if x.state = .settling then { x with settle := none } else x := by
  unfold Sect.leaveFree
  cases hs : x.state <;> rfl

/-- A stopped timer starts only where every bounding head is FREE (R72). -/
theorem becomeFree_eq (free : Bool) (x : Sect) :
    x.becomeFree free = if x.state = .settling ∧ x.settle = none ∧ free = true then { x with settle := some 0 } else x := by
  unfold Sect.becomeFree
  by_cases h : x.state = .settling ∧ x.settle = none
  · rw [if_pos h]
    cases free with
    | true => rw [if_pos ⟨h.1, h.2, rfl⟩]; rfl
    | false =>
      have hstopped : { x with settle := startSettle false } = x := by rw [show startSettle false = x.settle from h.2.symm]
      rw [if_neg fun hc => Bool.false_ne_true hc.2.2, hstopped]
  · rw [if_neg h, if_neg fun hc => h ⟨hc.1, hc.2.1⟩]

/-- A cause raised where a condition holds acts on the sections that are not DISTURBED (R63). -/
theorem raise_where (p : Bool) (c : Cause) (dp : Option DP) (x : Sect) :
    (if p = true then x.raise c dp else x) =
      if p = true ∧ x.state ≠ .disturbed then { x with state := .disturbed, cause := c, causeDP := dp, settle := none } else x := by
  by_cases hstate : x.state = .disturbed
  · rw [raise_of_disturbed c dp x hstate, ite_self, if_neg fun hc => hc.2 hstate]
  · rw [raise_of_not_disturbed c dp x hstate]
    exact if_congr (and_iff_left hstate).symm rfl rfl

theorem bounds_iff (s : State) (d : DP) (k : SectNo) : s.bounds d k = true ↔ d ∈ s.bounding[k] := decide_eq_true_iff

/-- Settles O21: the class goes into the view, and the change of section records is reported as every such change is. -/
theorem headClassChangeResult : Obligations.HeadClassChangeResult := by
  intro s d
  refine ⟨fun hnone => congrArg Host.Outcome.next (takeClass_of_no_change hnone), fun c rest hbox => ?_⟩
  intro u
  have htake : s.takeClass d = u.reported fun k => u.classed d c k u.sects[k] := by
    rw [takeClass_of_change hbox, applyClass_eq, changeSects_eq_reported]
    rfl
  refine congrArg Host.Outcome.next (htake.trans (congrArg u.reported (funext fun k => ?_)))
  have hbounds : u.bounds d k = true ↔ d ∈ s.bounding[k] := bounds_iff u d k
  cases c with
  | notFree =>
    change (if u.bounds d k = true then Sect.leaveFree s.sects[k] else s.sects[k]) = _
    rw [leaveFree_eq]
    by_cases hd : d ∈ s.bounding[k] <;> simp only [hbounds, hd, true_and, false_and, if_true, if_false]
  | free =>
    change (if u.bounds d k = true then Sect.becomeFree (u.viewFree k) s.sects[k] else s.sects[k]) = _
    rw [becomeFree_eq]
    by_cases hd : d ∈ s.bounding[k] <;> simp only [hbounds, hd, true_and, false_and, if_true, if_false]
  | fault =>
    change (if (s.used k && u.bounds d k) = true then Sect.raise .headFault (some d) s.sects[k] else s.sects[k]) = _
    rw [raise_where]
    refine if_congr ?_ rfl rfl
    rw [Bool.and_eq_true, hbounds, and_assoc, and_left_comm]

/-! ### The occupancy history -/

/-- Slot j of the history view, where e periods have passed since the stamp (R93). -/
theorem historyView_slot (counter : BitVec 16) (x : Sect) {j : Nat} (hj : j < 8) :
    (x.historyView counter).getLsbD j = true ↔
      slotsAged counter x.histStamp ≤ j ∧ x.flags.getLsbD (j - slotsAged counter x.histStamp) = true := by
  rw [Sect.historyView, BitVec.getLsbD_shiftLeft]
  simp [hj]

theorem slotsAged_eq (counter stamp : BitVec 16) :
    slotsAged counter stamp =
      let e := (counter.toNat + 65536 - stamp.toNat) % 65536
      if e < 8 then e else 8 := by
  have hperiods : (counter - stamp).toNat = (counter.toNat + 65536 - stamp.toNat) % 65536 := by
    rw [BitVec.toNat_sub]
    have := stamp.isLt
    omega
  unfold slotsAged
  rw [hperiods]
  simp only
  split <;> omega

/-- Settles O20: the view is a shift by the aged slots, and the update stores it with slot 0 set. -/
theorem historySlots : Obligations.HistorySlots := by
  intro counter x j hj e k
  have hk : slotsAged counter x.histStamp = k := slotsAged_eq counter x.histStamp
  have hview := historyView_slot counter x hj
  rw [hk] at hview
  refine ⟨hview, ?_, rfl⟩
  have hupdate : (x.touchHistory counter).flags.getLsbD j = ((x.historyView counter).getLsbD j || (1#8).getLsbD j) :=
    BitVec.getLsbD_or
  rw [hupdate, Bool.or_eq_true, hview, BitVec.getLsbD_one, or_comm]
  simp

end Sys2Proof.Machine
end

section
/-! PROOFS. The timers that are not yet due, the history period and the report period (R64, R66, R89, R90, R107, R172). -/

namespace Sys2Proof.Machine

theorem takeWindow_of_not_due (s : State) (k : SectNo) (h : ¬ s.windowDue k = true) : s.takeWindow k = s := if_neg h

/-- Settles O23: a timer that has not counted its time, or does not run, is not due. -/
theorem expiriesNotYetDue : Obligations.ExpiriesNotYetDue := by
  intro s k
  refine ⟨fun e hrun htime => ?settling, fun r hopen htime => ?running, fun hnone => ?none⟩
  case settling =>
    rw [exec_settleExpiry, takeSettle_of_not_due]
    intro hdue
    obtain ⟨e', hrun', htime'⟩ := (settleDue_iff s k).mp hdue
    rw [settleTime_eq, Option.some.inj (hrun'.symm.trans hrun)] at htime'
    omega
  case running =>
    rw [exec_concurWindowExpiry, takeWindow_of_not_due]
    intro hdue
    obtain ⟨r', hopen', htime'⟩ := (windowDue_iff s k).mp hdue
    rw [Option.some.inj (hopen'.symm.trans hopen)] at htime'
    exact Nat.not_le.mpr htime htime'
  case none =>
    rw [exec_concurWindowExpiry, takeWindow_of_not_due]
    intro hdue
    obtain ⟨r', hopen', _⟩ := (windowDue_iff s k).mp hdue
    exact Option.some_ne_none r' (hopen'.symm.trans hnone)

/-! ### The history period -/

theorem periodDue_iff (s : State) :
    (s.inForce.isSome && decide (s.periodTicks ≤ s.periodTimer)) = true ↔
      s.inForce.isSome = true ∧ 2 ^ s.image.globals.histExp * 1000 ≤ s.periodTimer := by
  rw [Bool.and_eq_true, decide_eq_true_iff]
  rfl

theorem counter_next (c : BitVec 16) : c + 1#16 = BitVec.ofNat 16 (c.toNat + 1) := by
  apply BitVec.eq_of_toNat_eq
  simp

/-! ### The report period -/

/-- The search gives the least power of two from 2^i upwards that covers, where its fuel reaches one (R172). -/
theorem coveringPower_least (bits rate fuel i : Nat) (h : bits * 1000 ≤ 2 ^ (i + fuel) * rate) :
    ∃ n, coveringPower bits rate fuel (2 ^ i) = 2 ^ n ∧ bits * 1000 ≤ 2 ^ n * rate ∧
      ∀ p, i ≤ p → bits * 1000 ≤ 2 ^ p * rate → n ≤ p := by
  induction fuel generalizing i with
  | zero => exact ⟨i, rfl, h, fun p hp _ => hp⟩
  | succ fuel ih =>
    unfold coveringPower
    by_cases hcover : bits * 1000 ≤ 2 ^ i * rate
    · exact ⟨i, if_pos hcover, hcover, fun p hp _ => hp⟩
    · obtain ⟨n, hfound, hn, hleast⟩ := ih (i + 1) (by rw [Nat.add_right_comm]; exact h)
      refine ⟨n, ?_, hn, fun p hp hpc => ?_⟩
      · rw [if_neg hcover, ← hfound, Nat.pow_succ, Nat.mul_comm]
      · rcases Nat.eq_or_lt_of_le hp with rfl | hlt
        · exact absurd hpc hcover
        · exact hleast p hlt hpc

/-- A link supervises at most 24 sections, so its longest STATUS telegram and gap take at most 649 bit times. -/
theorem statusBits_le (s : State) (l : SupLink) : s.statusBits l ≤ 649 := by
  have hlen : (s.supervised l).length ≤ 24 := (List.length_filter_le _ _).trans (List.length_finRange (n := 24)).le
  unfold State.statusBits
  omega

theorem targetRate_ge (s : State) (l : SupLink) : 19200 ≤ s.targetRate l := by
  have hrate : isRate (s.targetRate l) := isRate_targetRate s l
  unfold isRate at hrate
  omega

/-- The period set for a link: 2^REPORT_EXP ms, 128 ms with no image in force (R172). -/
theorem reportSet_eq (s : State) (l : SupLink) :
    2 ^ s.reportExp l = if s.inForce.isSome = true then 2 ^ (s.image.params l).reportExp else 128 := by
  unfold State.reportExp
  split <;> rfl

theorem reportPeriod_of_covering {s : State} {l : SupLink} (h : s.statusBits l * 1000 ≤ 2 ^ s.reportExp l * s.targetRate l) :
    s.reportPeriod l = 2 ^ s.reportExp l := if_pos h

/-- Where the period set is too short, the least power of two that covers takes its place (R172). -/
theorem reportPeriod_of_short {s : State} {l : SupLink} (h : ¬ s.statusBits l * 1000 ≤ 2 ^ s.reportExp l * s.targetRate l) :
    ∃ n, s.reportPeriod l = 2 ^ n ∧ s.statusBits l * 1000 ≤ 2 ^ n * s.targetRate l ∧
      ∀ p, s.statusBits l * 1000 ≤ 2 ^ p * s.targetRate l → n ≤ p := by
  have hfuel : s.statusBits l * 1000 ≤ 2 ^ (0 + 16) * s.targetRate l := by
    have := statusBits_le s l
    have := targetRate_ge s l
    omega
  obtain ⟨n, hfound, hn, hleast⟩ := coveringPower_least (s.statusBits l) (s.targetRate l) 16 0 hfuel
  exact ⟨n, (if_neg h).trans hfound, hn, fun p hp => hleast p (Nat.zero_le p) hp⟩

/-- Settles O24: the two expiries, and the report period as the period set or the least power of two that covers. -/
theorem reportAndHistoryPeriods : Obligations.ReportAndHistoryPeriods := by
  refine ⟨⟨fun s => ⟨fun hdue => ?advances, fun hnot => ?stays⟩, fun s l => ⟨fun hdue => ?reports, fun hnot => ?waits⟩⟩,
    fun s l => ?period⟩
  case advances =>
    have htake : s.takePeriod = { s with periodTimer := 0, periodCounter := s.periodCounter + 1#16 } :=
      if_pos ((periodDue_iff s).mpr hdue)
    exact congrArg Host.Outcome.next (by rw [htake, counter_next])
  case stays => exact congrArg Host.Outcome.next (if_neg fun hdue => hnot ((periodDue_iff s).mp hdue))
  case reports => exact congrArg Host.Outcome.next (if_pos hdue)
  case waits => exact congrArg Host.Outcome.next (if_neg (Nat.not_le.mpr hnot))
  case period =>
    intro m bits rate wanted
    have hwanted : 2 ^ s.reportExp l = wanted := reportSet_eq s l
    have hbits : s.statusBits l = bits := rfl
    have hrate : s.targetRate l = rate := rfl
    rw [← hwanted, ← hrate, ← hbits]
    refine ⟨?covers, fun h => reportPeriod_of_covering h, fun h => ?least, fun hnone => ?unforced⟩
    case covers =>
      by_cases h : s.statusBits l * 1000 ≤ 2 ^ s.reportExp l * s.targetRate l
      · rw [reportPeriod_of_covering h]; exact h
      · obtain ⟨n, hn, hcover, _⟩ := reportPeriod_of_short h
        rw [hn]; exact hcover
    case least =>
      obtain ⟨n, hn, _, hleast⟩ := reportPeriod_of_short (Nat.not_le.mpr h)
      exact ⟨n, hn, hleast⟩
    case unforced =>
      have hset : 2 ^ s.reportExp l = 128 := by rw [reportSet_eq, hnone]; rfl
      have hcover : s.statusBits l * 1000 ≤ 2 ^ s.reportExp l * s.targetRate l := by
        have := statusBits_le s l
        have := targetRate_ge s l
        rw [hset]
        omega
      rw [reportPeriod_of_covering hcover, hset]

end Sys2Proof.Machine
end

section
/-! PROOFS. The reset requests and their answers (R101 to R113), and SECTION_DETAIL (R88, R108). -/

namespace Sys2Proof.Machine

/-! ### What the owner of a request finds -/

section Unhand
variable (s : State) (l : SupLink)

@[simp] theorem unhandSup_mode : (s.unhandSup l).mode = s.mode := setSup_mode s l _

@[simp] theorem unhandSup_sects : (s.unhandSup l).sects = s.sects := setSup_sects s l _

@[simp] theorem unhandSup_records : (s.unhandSup l).records = s.records := setSup_records s l _

@[simp] theorem unhandSup_image : (s.unhandSup l).image = s.image := setSup_image s l _

@[simp] theorem unhandSup_used (k : SectNo) : (s.unhandSup l).used k = s.used k := by cases l <;> rfl

@[simp] theorem unhandSup_supervises (m : SupLink) (k : SectNo) : (s.unhandSup l).supervises m k = s.supervises m k := by
  cases l <;> rfl

@[simp] theorem unhandSup_viewFree (k : SectNo) : (s.unhandSup l).viewFree k = s.viewFree k := by cases l <;> rfl

theorem unhandSup_validation (kind : ResetKind) (k : SectNo) : validation (s.unhandSup l) kind k = validation s kind k := by
  cases l <;> rfl

end Unhand

/-- A reset request that is free to be taken is answered with what the RCU makes of it (R165, R166). -/
theorem exec_reset {s t : State} {kind : ResetKind} {l : SupLink} {n : Nat} {r : Result}
    (hready : s.readySup l (resetRequest kind n)) (h : State.requestReset kind l n (s.unhandSup l) = (t, plain r)) :
    exec (resetCommand kind l n) s = .next (answeredReset kind l t r) := by
  cases kind with
  | prep =>
    have htake := takeSup_ready s l (.resetPrep n) (State.requestReset .prep l n) hready
    exact congrArg Host.Outcome.next (htake.trans (congrArg (fun o => o.1.respond (.sup l) 0x11#8 o.2) h))
  | direct =>
    have htake := takeSup_ready s l (.resetDirect n) (State.requestReset .direct l n) hready
    exact congrArg Host.Outcome.next (htake.trans (congrArg (fun o => o.1.respond (.sup l) 0x12#8 o.2) h))

/-! ### Checks 1 to 4 -/

theorem usedSect_of {s : State} {n : Nat} {k : SectNo} (hk : k.val = n) (hused : s.used k = true) : s.usedSect n = some k := by
  subst hk
  unfold State.usedSect sectOf
  rw [dif_pos k.isLt, Option.filter_some, if_pos hused]

theorem usedSect_none {s : State} {n : Nat} (h : ∀ k : SectNo, k.val = n → s.used k = false) : s.usedSect n = none := by
  cases hsome : s.usedSect n with
  | none => rfl
  | some k =>
    obtain ⟨hk, hused⟩ := usedSect_some hsome
    exact absurd hused (by rw [h k hk]; decide)

theorem checkRequest_of_mode {s : State} {l : SupLink} {n : Nat} (h : s.mode ≠ .counting) :
    s.checkRequest l n = .error .refusedMode := if_pos h

theorem checkRequest_of_unused {s : State} {l : SupLink} {n : Nat} (hmode : s.mode = .counting)
    (h : ∀ k : SectNo, k.val = n → s.used k = false) : s.checkRequest l n = .error .refusedRange := by
  unfold State.checkRequest
  rw [if_neg (not_not_intro hmode), usedSect_none h]

theorem checkRequest_of_used {s : State} {l : SupLink} {n : Nat} {k : SectNo} (hmode : s.mode = .counting) (hk : k.val = n)
    (hused : s.used k = true) :
    s.checkRequest l n = if s.supervises l k = true then .ok k else .error .refusedNotSupervisor := by
  unfold State.checkRequest
  rw [if_neg (not_not_intro hmode), usedSect_of hk hused]

theorem requestReset_of_error {s : State} {kind : ResetKind} {l : SupLink} {n : Nat} {r : Result}
    (h : s.checkRequest l n = .error r) : State.requestReset kind l n s = (s, plain r) := by
  unfold State.requestReset
  rw [h]

theorem requestReset_of_state {s : State} {kind : ResetKind} {l : SupLink} {n : Nat} {k : SectNo}
    (h : s.checkRequest l n = .ok k) (hstate : ¬ resettable s.sects[k].state = true) :
    State.requestReset kind l n s = (s, plain .refusedState) := by
  unfold State.requestReset
  rw [h]
  exact if_pos (by rw [Bool.eq_false_iff.mpr hstate]; rfl)

theorem requestReset_of_no_record {s : State} {kind : ResetKind} {l : SupLink} {n : Nat} {k : SectNo}
    (h : s.checkRequest l n = .ok k) (hstate : resettable s.sects[k].state = true) (hnone : s.records[k] = none) :
    State.requestReset kind l n s = s.openReset kind l k := by
  unfold State.requestReset
  rw [h]
  simp only
  rw [hstate, hnone]
  rfl

theorem requestReset_of_record {s : State} {kind : ResetKind} {l : SupLink} {n : Nat} {k : SectNo} {r : PendingRecord}
    (h : s.checkRequest l n = .ok k) (hstate : resettable s.sects[k].state = true) (hopen : s.records[k] = some r) :
    State.requestReset kind l n s = s.meetRecord kind l k r := by
  unfold State.requestReset
  rw [h]
  simp only
  rw [hstate, hopen]
  rfl

/-! ### The validation -/

theorem headsFree_iff (s : State) (k : SectNo) : s.headsFree k = true ↔ ∀ d ∈ s.bounding[k], s.heads[d].state = .free := by
  simp only [State.headsFree, List.all_eq_true, decide_eq_true_eq]

/-- A quiet window of any length asks about the eight slots there are (R95). -/
theorem quietEnough_iff (s : State) (k : SectNo) :
    s.quietEnough k = true ↔
      ∀ j : Fin 8, j.val < s.image.sects[k].quiet → (s.sects[k].historyView s.periodCounter).getLsbD j.val = false := by
  simp only [State.quietEnough, List.all_eq_true, List.mem_range, Bool.not_eq_true']
  refine ⟨fun h j hj => h j hj, fun h j hj => ?_⟩
  by_cases hlt : j < 8
  · exact h ⟨j, hlt⟩ hj
  · exact BitVec.getLsbD_of_ge _ _ (Nat.not_lt.mp hlt)

/-- The model's validation is the one that the statements compare with (R101, R102). -/
theorem validate_eq (s : State) (kind : ResetKind) (k : SectNo) : s.validate kind k = validation s kind k := by
  unfold State.validate validation
  by_cases hfree : ∀ d ∈ s.bounding[k], s.heads[d].state = .free
  · rw [if_neg (not_not_intro hfree), (headsFree_iff s k).mpr hfree]
    cases kind with
    | prep => rfl
    | direct =>
      cases s.image.sects[k].direct with
      | false => rfl
      | true =>
        by_cases hquiet : s.quietEnough k = true
        · rw [if_neg (by decide), if_neg (by decide), if_pos ((quietEnough_iff s k).mp hquiet), hquiet]
          rfl
        · rw [if_neg (by decide), if_neg (by decide), if_neg (mt (quietEnough_iff s k).mpr hquiet), Bool.eq_false_iff.mpr hquiet]
          rfl
  · rw [if_pos hfree, Bool.eq_false_iff.mpr (mt (headsFree_iff s k).mp hfree)]
    rfl

/-! ### Requests that meet no record -/

theorem openReset_refused {s : State} {kind : ResetKind} {l : SupLink} {k : SectNo} {r : Result} (h : validation s kind k = some r) :
    s.openReset kind l k = (s, plain r) := by
  unfold State.openReset
  rw [validate_eq, h]

theorem openReset_shared {s : State} {kind : ResetKind} {l : SupLink} {k : SectNo} (h : validation s kind k = none)
    (hshared : s.image.supervision k = .shared) :
    s.openReset kind l k = ((s.setRecord k (some ⟨kind, l, 0⟩)).ask .concurOpen l.other, plain .pending) := by
  unfold State.openReset
  rw [validate_eq, h]
  exact if_pos hshared

theorem openReset_alone {s : State} {kind : ResetKind} {l : SupLink} {k : SectNo} (h : validation s kind k = none)
    (hshared : s.image.supervision k ≠ .shared) : s.openReset kind l k = (s.performReset kind k, plain .accepted) := by
  unfold State.openReset
  rw [validate_eq, h]
  exact if_neg hshared

/-- A reset performed, in the statements' form of the section record (R81 to R83). -/
theorem performReset_after (s : State) (kind : ResetKind) (k : SectNo) :
    s.performReset kind k =
      (s.setSect k (s.sects[k].afterReset kind (s.viewFree k))).asks fun l => if s.supervises l k then [.change] else [] := by
  rw [performReset_eq]
  cases kind <;> rfl

/-- A section that is not SHARED has one supervisor at most (R99). -/
theorem supervises_alone {s : State} {l : SupLink} {k : SectNo} (hshared : s.image.supervision k ≠ .shared)
    (h : s.supervises l k = true) (m : SupLink) : s.supervises m k = true ↔ m = l := by
  unfold State.supervises at h ⊢
  obtain ⟨hforce, hnames⟩ := Bool.and_eq_true_iff.mp h
  rw [hforce]
  revert hnames hshared
  cases s.image.supervision k <;> cases l <;> cases m <;> simp [Supervision.names]

theorem supervises_shared {s : State} {k : SectNo} (hused : s.used k = true) (hshared : s.image.supervision k = .shared) (l : SupLink) :
    s.supervises l k = true := by
  unfold State.supervises
  obtain ⟨hforce, _⟩ := Bool.and_eq_true_iff.mp hused
  rw [hforce, hshared]
  rfl

theorem resettable_of {x : SectState} (h : x = .occupied ∨ x = .disturbed) : resettable x = true := by
  rcases h with rfl | rfl <;> rfl

/-- Settles O25: each check is one refusal of the RCU, and nothing else is touched. -/
theorem resetRefusals : Obligations.ResetRefusals := by
  intro s kind l n hready refused
  have answered {r : Result} (h : State.requestReset kind l n (s.unhandSup l) = (s.unhandSup l, plain r)) : refused r :=
    exec_reset hready h
  refine ⟨fun hmode => answered (requestReset_of_error (checkRequest_of_mode (by simpa using hmode))), fun hmode => ?_⟩
  have hmode' : (s.unhandSup l).mode = .counting := by rw [unhandSup_mode]; exact hmode
  refine ⟨fun hunused => ?range, fun k hk hused => ⟨fun hother => ?supervisor, fun hsupervises => ?_⟩⟩
  case range => exact answered (requestReset_of_error (checkRequest_of_unused hmode' (by simpa using hunused)))
  all_goals
    have hcheck := checkRequest_of_used (s := s.unhandSup l) (l := l) hmode' hk (by rw [unhandSup_used]; exact hused)
    rw [unhandSup_supervises] at hcheck
  case supervisor =>
    rw [hother] at hcheck
    exact answered (requestReset_of_error hcheck)
  rw [hsupervises] at hcheck
  refine ⟨fun hnotOccupied hnotDisturbed => answered (requestReset_of_state hcheck ?_), fun hstate hnone r hrefused => ?_⟩
  · rw [unhandSup_sects, resettable_iff]
    exact fun h => h.elim hnotOccupied hnotDisturbed
  · refine answered ((requestReset_of_no_record hcheck ?_ ?_).trans (openReset_refused ?_))
    · rw [unhandSup_sects]; exact resettable_of hstate
    · rw [unhandSup_records]; exact hnone
    · rw [unhandSup_validation]; exact hrefused

/-- What the RCU makes of a request that passes checks 1 to 4, with no record and with one. -/
theorem requestReset_checked {s : State} {l : SupLink} {k : SectNo} (kind : ResetKind) (hmode : s.mode = .counting)
    (hused : s.used k = true) (hsupervises : s.supervises l k = true)
    (hstate : s.sects[k].state = .occupied ∨ s.sects[k].state = .disturbed) :
    (s.records[k] = none → State.requestReset kind l k.val (s.unhandSup l) = (s.unhandSup l).openReset kind l k) ∧
    ∀ r, s.records[k] = some r → State.requestReset kind l k.val (s.unhandSup l) = (s.unhandSup l).meetRecord kind l k r := by
  have hcheck := checkRequest_of_used (s := s.unhandSup l) (l := l) (n := k.val) (by rw [unhandSup_mode]; exact hmode) rfl
    (by rw [unhandSup_used]; exact hused)
  rw [unhandSup_supervises, hsupervises] at hcheck
  have hstate' : resettable (s.unhandSup l).sects[k].state = true := by rw [unhandSup_sects]; exact resettable_of hstate
  refine ⟨fun hnone => requestReset_of_no_record hcheck hstate' ?_, fun r hopen => requestReset_of_record hcheck hstate' ?_⟩
  · rw [unhandSup_records]; exact hnone
  · rw [unhandSup_records]; exact hopen

/-- Settles O26: with every check passed the reset is performed, or its record opened. -/
theorem firstResetRequestResult : Obligations.FirstResetRequestResult := by
  refine ⟨fun s kind l k hready hmode hused hsupervises hshared hstate hnone hvalid => ?alone,
    fun s kind l k hready hmode hused hshared hstate hnone hvalid => ?shared⟩
  case alone =>
    have hrequest := (requestReset_checked kind hmode hused hsupervises hstate).1 hnone
    have hvalid' : validation (s.unhandSup l) kind k = none := by rw [unhandSup_validation]; exact hvalid
    have hasks : (fun m => if s.supervises m k = true then [Notice.change] else []) = fun m => if m = l then [.change] else [] :=
      funext fun m => if_congr (supervises_alone hshared hsupervises m) rfl rfl
    refine exec_reset hready (hrequest.trans ((openReset_alone hvalid' (by rw [unhandSup_image]; exact hshared)).trans ?_))
    rw [performReset_after, unhandSup_sects, unhandSup_viewFree, ask_eq, ← hasks]
    simp only [unhandSup_supervises]
  case shared =>
    have hrequest := (requestReset_checked kind hmode hused (supervises_shared hused hshared l) hstate).1 hnone
    have hvalid' : validation (s.unhandSup l) kind k = none := by rw [unhandSup_validation]; exact hvalid
    exact exec_reset hready (hrequest.trans (openReset_shared hvalid' (by rw [unhandSup_image]; exact hshared)))

/-! ### Requests that meet a record -/

theorem meetRecord_of_opener {s : State} {kind : ResetKind} {l : SupLink} {k : SectNo} {r : PendingRecord} (h : r.opener = l) :
    s.meetRecord kind l k r = (s, plain .refusedDuplicate) := if_pos h

theorem meetRecord_of_kind {s : State} {kind : ResetKind} {l : SupLink} {k : SectNo} {r : PendingRecord} (h : r.opener ≠ l)
    (hkind : r.kind ≠ kind) : s.meetRecord kind l k r = (s.dropRecord k, plain .refusedKindMismatch) :=
  (if_neg h).trans (if_pos hkind)

theorem meetRecord_validated {s : State} {kind : ResetKind} {l : SupLink} {k : SectNo} {r : PendingRecord} (h : r.opener ≠ l)
    (hkind : r.kind = kind) :
    (∀ x, validation s kind k = some x → s.meetRecord kind l k r = (s.dropRecord k, plain x)) ∧
    (validation s kind k = none → s.meetRecord kind l k r = ((s.performReset kind k).setRecord k none, plain .accepted)) := by
  have hmeet : s.meetRecord kind l k r =
      match s.validate kind k with
      | some e => (s.dropRecord k, plain e)
      | none => ((s.performReset kind k).setRecord k none, plain .accepted) := (if_neg h).trans (if_neg (not_not_intro hkind))
  rw [hmeet, validate_eq]
  refine ⟨fun x hx => ?_, fun hnone => ?_⟩
  · rw [hx]
  · rw [hnone]

/-- Settles O27: the opener is refused, and the other link's request ends the record one way or the other. -/
theorem secondRequestResult : Obligations.SecondRequestResult := by
  intro s kind l k r hready hmode hused hshared hstate hopen answered lapsed
  have hsupervises := supervises_shared hused hshared
  have hrequest := (requestReset_checked kind hmode hused (hsupervises l) hstate).2 r hopen
  have hdrop : (s.unhandSup l).dropRecord k = lapsed := dropRecord_of_open _ k r (by rw [unhandSup_records]; exact hopen)
  have hvalid : validation (s.unhandSup l) kind k = validation s kind k := unhandSup_validation s l kind k
  refine ⟨fun hown => ?own, fun hother hkind => ?kind, fun hother hkind x hx => ?refused, fun hother hkind hnone => ?performed⟩
  case own => exact exec_reset hready (hrequest.trans (meetRecord_of_opener hown))
  case kind => exact exec_reset hready (hrequest.trans ((meetRecord_of_kind hother hkind).trans (by rw [hdrop])))
  case refused =>
    have hmeet := (meetRecord_validated (s := s.unhandSup l) (k := k) hother hkind).1 x (hvalid.trans hx)
    exact exec_reset hready (hrequest.trans (hmeet.trans (by rw [hdrop])))
  case performed =>
    have hmeet := (meetRecord_validated (s := s.unhandSup l) (k := k) hother hkind).2 (hvalid.trans hnone)
    refine exec_reset hready (hrequest.trans (hmeet.trans ?_))
    rw [performReset_after, unhandSup_sects, unhandSup_viewFree, ask_eq, ask_eq, asks_asks]
    congr 3
    funext m
    rw [unhandSup_supervises, hsupervises m]
    cases m <;> rfl

/-! ### RESET_CANCEL -/

theorem exec_cancel {s t : State} {l : SupLink} {n : Nat} {r : Result} (hready : s.readySup l (.resetCancel n))
    (h : State.cancelReset l n (s.unhandSup l) = (t, plain r)) :
    exec (.resetCancel l n) s = .next (State.respond t (.sup l) 0x13#8 ⟨r, []⟩) := by
  have htake := takeSup_ready s l (.resetCancel n) (State.cancelReset l n) hready
  exact congrArg Host.Outcome.next (htake.trans (congrArg (fun o => o.1.respond (.sup l) 0x13#8 o.2) h))

theorem cancelReset_of_error {s : State} {l : SupLink} {n : Nat} {r : Result} (h : s.checkRequest l n = .error r) :
    State.cancelReset l n s = (s, plain r) := by
  unfold State.cancelReset
  rw [h]

theorem cancelReset_of_opener {s : State} {l : SupLink} {n : Nat} {k : SectNo} {r : PendingRecord} (h : s.checkRequest l n = .ok k)
    (hopen : s.records[k] = some r) (hown : r.opener = l) : State.cancelReset l n s = (s.setRecord k none, plain .accepted) := by
  unfold State.cancelReset
  rw [h]
  simp only
  rw [hopen]
  exact if_pos hown

theorem cancelReset_of_no_record {s : State} {l : SupLink} {n : Nat} {k : SectNo} (h : s.checkRequest l n = .ok k)
    (hnone : ∀ r, s.records[k] = some r → r.opener ≠ l) : State.cancelReset l n s = (s, plain .refusedNoRecord) := by
  unfold State.cancelReset
  rw [h]
  simp only
  cases hopen : s.records[k] with
  | none => rfl
  | some r => exact if_neg (hnone r hopen)

/-- Settles O28: the same first three checks, and then the opener's record or none. -/
theorem cancelResult : Obligations.CancelResult := by
  intro s l n hready answered
  have answer {t : State} {r : Result} (h : State.cancelReset l n (s.unhandSup l) = (t, plain r)) : answered t r := exec_cancel hready h
  refine ⟨fun hmode => answer (cancelReset_of_error (checkRequest_of_mode (by simpa using hmode))), fun hmode => ?_⟩
  have hmode' : (s.unhandSup l).mode = .counting := by rw [unhandSup_mode]; exact hmode
  refine ⟨fun hunused => ?range, fun k hk hused => ⟨fun hother => ?supervisor, fun hsupervises => ?_⟩⟩
  case range => exact answer (cancelReset_of_error (checkRequest_of_unused hmode' (by simpa using hunused)))
  all_goals
    have hcheck := checkRequest_of_used (s := s.unhandSup l) (l := l) hmode' hk (by rw [unhandSup_used]; exact hused)
    rw [unhandSup_supervises] at hcheck
  case supervisor =>
    rw [hother] at hcheck
    exact answer (cancelReset_of_error hcheck)
  rw [hsupervises] at hcheck
  refine ⟨fun r hopen hown => ?_, fun hnone => ?_⟩
  · exact answer (cancelReset_of_opener hcheck (by rw [unhandSup_records]; exact hopen) hown)
  · exact answer (cancelReset_of_no_record hcheck (by rw [unhandSup_records]; exact hnone))

/-! ### SECTION_DETAIL -/

theorem exec_sectionDetail_ready {s : State} {l : SupLink} {n : Nat} {a : Answer} (hready : s.readySup l (.sectionDetail n))
    (h : State.sectDetail n (s.unhandSup l) = (s.unhandSup l, a)) :
    exec (.sectionDetail l n) s = .next ((s.unhandSup l).respond (.sup l) 0x14#8 a) := by
  have htake := takeSup_ready s l (.sectionDetail n) (State.sectDetail n) hready
  exact congrArg Host.Outcome.next (htake.trans (congrArg (fun o => o.1.respond (.sup l) 0x14#8 o.2) h))

theorem bytes16_ofNat (n : Nat) : bytes16 (BitVec.ofNat 16 n) = [byte (n / 256), byte n] := by
  have hhigh : (BitVec.ofNat 16 n).extractLsb' 8 8 = byte (n / 256) := by
    apply BitVec.eq_of_toNat_eq
    simp [byte, BitVec.extractLsb'_toNat, Nat.shiftRight_eq_div_pow]
    omega
  have hlow : (BitVec.ofNat 16 n).extractLsb' 0 8 = byte n := by
    apply BitVec.eq_of_toNat_eq
    simp [byte, BitVec.extractLsb'_toNat]
  unfold bytes16
  rw [hhigh, hlow]

/-- The RCU's fields of a section's detail (R108, R171). -/
def State.pendingFields (s : State) (k : SectNo) : Byte × Byte × Byte :=
  match s.records[k] with
  | none => (0#8, 0#8, 0#8)
  | some r => (byte (kindCode r.kind), byte (openerCode r.opener), byte (s.secondsLeft r))

theorem detailData_eq (s : State) (k : SectNo) :
    s.detailData k = [byte k.val, byte s.sects[k].state.code, byte (s.sects[k].count / 256), byte s.sects[k].count,
      byte s.sects[k].cause.code, (match s.sects[k].causeDP with | some d => byte d.val | none => 255#8),
      s.sects[k].historyView s.periodCounter, (s.pendingFields k).1, (s.pendingFields k).2.1, (s.pendingFields k).2.2] := by
  unfold State.detailData State.pendingFields
  simp only
  rw [bytes16_ofNat]
  cases s.sects[k].causeDP <;> cases s.records[k] <;> rfl

theorem detailData_unhandSup (s : State) (l : SupLink) (k : SectNo) : (s.unhandSup l).detailData k = s.detailData k := by
  cases l <;> rfl

/-- The seconds left are the ticks left, rounded up to a whole second (R108; log 19). -/
theorem secondsLeft_bounds {s : State} {r : PendingRecord} (hwindow : s.image.globals.concurWindow ≤ 60)
    (hleft : r.elapsed < s.image.globals.concurWindow * 1000) :
    (byte (s.secondsLeft r)).toNat * 1000 < s.image.globals.concurWindow * 1000 - r.elapsed + 1000 ∧
      s.image.globals.concurWindow * 1000 - r.elapsed ≤ (byte (s.secondsLeft r)).toNat * 1000 := by
  have hseconds : s.secondsLeft r = max 1 ((s.image.globals.concurWindow * 1000 - r.elapsed + 999) / 1000) := rfl
  have hbyte : (byte (s.secondsLeft r)).toNat = s.secondsLeft r := by
    unfold byte
    rw [BitVec.toNat_ofNat]
    omega
  omega

/-- Settles O30: the detail reads the section record and the RCU's record, and answers on the slot alone. -/
theorem sectionDetailResult : Obligations.SectionDetailResult := by
  intro s l n hready answered
  refine ⟨fun hunused => ?range, fun k hk hused => ?detail⟩
  case range =>
    refine exec_sectionDetail_ready hready ?_
    unfold State.sectDetail
    rw [usedSect_none (by simpa using hunused)]
    rfl
  case detail =>
    intro x
    refine ⟨s.pendingFields k, ?answer, fun hnone => ?none, fun r hopen => ?fields⟩
    case answer =>
      subst hk
      refine exec_sectionDetail_ready hready ?_
      unfold State.sectDetail
      rw [usedSect_of rfl (by rw [unhandSup_used]; exact hused)]
      exact congrArg (fun data => (s.unhandSup l, Answer.mk .accepted data)) ((detailData_unhandSup s l k).trans (detailData_eq s k))
    case none => unfold State.pendingFields; rw [hnone]
    case fields =>
      have hfields : s.pendingFields k = (byte (kindCode r.kind), byte (openerCode r.opener), byte (s.secondsLeft r)) := by
        unfold State.pendingFields; rw [hopen]
      rw [hfields]
      refine ⟨?_, ?_, secondsLeft_bounds⟩
      · cases r.kind <;> rfl
      · cases r.opener <;> rfl

end Sys2Proof.Machine
end

section
/-! PROOFS. The Integrity Monitor: the scrub, the clock window and the halt (R128 to R136). -/

namespace Sys2Proof.Machine

/-! ### The scrub -/

theorem scrubDue_of_timer {s : State} {e : Nat} (h : s.scrubTimer = some e) :
    s.scrubDue = true ↔ s.image.globals.scrubPeriod * 1000 ≤ e := by
  unfold State.scrubDue
  rw [h]
  exact decide_eq_true_iff

theorem not_scrubDue {s : State} (h : ∀ e, s.scrubTimer = some e → e < s.image.globals.scrubPeriod * 1000) : ¬ s.scrubDue = true := by
  cases htimer : s.scrubTimer with
  | none =>
    unfold State.scrubDue
    rw [htimer]
    exact Bool.false_ne_true
  | some e => rw [scrubDue_of_timer htimer]; exact Nat.not_le.mpr (h e htimer)

/-- A pass that completes: with the signature it clears the errors in COUNTING, without it it raises the cause (R129 to R131). -/
theorem completeScrub_of_pass {s : State} {read : ScrubRead} (hpass : s.scrubPass = true) :
    s.completeScrub read =
      if s.inForce = some (s.recomputed read) then
        if s.mode = .counting then { s with scrubPass := false, softErrors := 0 } else { s with scrubPass := false }
      else State.raiseHalt { s with scrubPass := false } .scrubMismatch := if_pos hpass

/-! ### The clock window -/

theorem deviates_iff (n : Nat) : deviates n = true ↔ n < 980 ∨ 1021 ≤ n := by
  rw [deviates, Bool.or_eq_true, decide_eq_true_iff, decide_eq_true_iff, or_comm]
  rfl

/-- Settles O31: the expiry and the completion of a scrub pass, and the end of a clock window, with the cause that each may raise. -/
theorem scrubAndClockResults : Obligations.ScrubAndClockResults := by
  refine ⟨⟨fun s => ⟨fun e hrun htime => ?starts, fun hnot => ?waits⟩, fun s read => ?completes⟩, fun s => ?clock⟩
  case starts => exact congrArg Host.Outcome.next (if_pos ((scrubDue_of_timer hrun).mpr htime))
  case waits => exact congrArg Host.Outcome.next (if_neg (not_scrubDue hnot))
  case completes =>
    intro same done
    have hsame : s.inForce = some (s.recomputed read) ↔ same := by cases read <;> exact Iff.rfl
    have hexec : exec (.scrubComplete read) s = .next (s.completeScrub read) := rfl
    rw [hexec]
    refine ⟨fun hidle => ?_, fun hpass => ?_⟩
    · exact congrArg Host.Outcome.next (if_neg (by rw [hidle]; decide))
    rw [completeScrub_of_pass hpass]
    refine ⟨fun hmode hs => ?_, fun hmode hs => ?_, fun hmode hs => ?_, fun hmode hs => ?_⟩
    · rw [if_pos (hsame.mpr hs), if_pos hmode]
    · rw [if_pos (hsame.mpr hs), if_neg (by rw [hmode]; decide)]
    · rw [if_neg (mt hsame.mp hs)]
      exact congrArg Host.Outcome.next (raiseHalt_of_counting done _ hmode)
    · rw [if_neg (mt hsame.mp hs)]
      exact congrArg Host.Outcome.next (raiseHalt_of_halted done _ hmode)
  case clock =>
    intro ended
    refine ⟨fun hlow hhigh => ?_, fun hdeviates => ?_⟩
    · refine congrArg Host.Outcome.next (if_neg ?_)
      rw [deviates_iff]
      omega
    · have hexec : exec .clockWindowEnd s = .next (ended.raiseHalt .clockDeviation) :=
        congrArg Host.Outcome.next (if_pos ((deviates_iff _).mpr hdeviates))
      rw [hexec]
      refine ⟨fun hmode => ?_, fun hmode => ?_, fun hcounting hhalted => ?_⟩
      · rw [raiseHalt_of_counting ended _ hmode]
      · rw [raiseHalt_of_halted ended _ hmode]
      · rw [raiseHalt_of_other ended _ hcounting hhalted]

/-! ### The halt -/

/-- A link that supervises a section which the halt disturbs (R138). -/
theorem disturbs_iff (s : State) (l : SupLink) :
    ((List.finRange 24).any fun k => s.supervises l k && decide (s.sects[k].state ≠ .disturbed)) = true ↔
      ∃ k : SectNo, s.supervises l k = true ∧ s.sects[k].state ≠ .disturbed := by
  simp only [List.any_eq_true, List.mem_finRange, true_and, Bool.and_eq_true, decide_eq_true_eq]

/-- Settles O32: the entry into HALTED field by field, and the offer to the subsequent slot by the ranks. -/
theorem haltEntryEffects : Obligations.HaltEntryEffects := by
  refine ⟨fun s c => ?entry, fun s c hmode => raiseHalt_of_halted s c hmode, fun c => ⟨rfl, fun held => ?offer⟩⟩
  case offer =>
    refine ⟨fun hrank => ?_, fun hrank => ?_⟩
    · exact if_pos hrank
    · exact if_neg (Nat.not_lt.mpr hrank)
  case entry =>
    intro t
    have ht : t = _ := enterHalted_eq s c
    refine ⟨by rw [ht], by rw [ht], fun k => ?sects, fun k => ?records, fun l => ?links, by rw [ht]⟩
    case sects =>
      rw [ht]
      exact (tabulate_get _ k).trans (raise_where (s.used k) .halt none s.sects[k])
    case records => rw [ht]; exact noRecords_get k
    case links =>
      intro x
      have hlapses : ((List.finRange 24).flatMap fun k => lapse s.records[k] l) = (List.finRange 24).flatMap fun k => s.lapses k l :=
        List.flatMap_congr fun k _ => lapse_eq_lapses s k l
      have htold : t.sup l =
          if ((List.finRange 24).any fun k => s.supervises l k && decide (s.sects[k].state ≠ .disturbed)) = true then
            (Sup.setNotice .halt { s.sup l with
              asked := (s.sup l).asked ++ (List.finRange 24).flatMap fun k => lapse s.records[k] l }).setNotice .change
          else Sup.setNotice .halt { s.sup l with
            asked := (s.sup l).asked ++ (List.finRange 24).flatMap fun k => lapse s.records[k] l } := by
        rw [ht]
        cases l <;> rfl
      rw [htold, hlapses]
      exact if_congr (disturbs_iff s l) rfl rfl

end Sys2Proof.Machine
end

section
/-! PROOFS. Reading over the service link (R24, R140, R155), the operations of the Image Controller that take their time (R147, R151, R154) and
what an image that comes into force sets (R143). -/

namespace Sys2Proof.Machine

/-! ### Answers of the service link -/

/-- A service request that is free to be taken is answered with what its owner makes of it (R165, R166). -/
theorem exec_svc {s t : State} {c : Instr} {r : SvcRequest} {owner : State → State × Answer} {a : Answer}
    (hexec : exec c s = .next (s.takeSvc r owner)) (hready : s.readySvc r) (h : owner s.unhandSvc = (t, a)) :
    exec c s = .next (t.respond .svl (svcKind r) a) := by
  rw [hexec, takeSvc_ready s r owner hready]
  exact congrArg (fun o => Host.Outcome.next (State.respond o.1 .svl (svcKind r) o.2)) h

theorem dpOf_val (d : DP) : dpOf d.val = some d := dif_pos d.isLt

theorem dpOf_none {n : Nat} (h : 31 < n) : dpOf n = none := dif_neg (by omega)

/-- The two level bits of HEAD_READ (R171). -/
theorem levelsByte_eq (q1 q2 : Bool) :
    byte ((if q1 = true then 1 else 0) + if q2 = true then 2 else 0) = (if q2 = true then 2#8 else 0#8) + if q1 = true then 1#8 else 0#8 := by
  cases q1 <;> cases q2 <;> rfl

theorem readHead_of_dp (s : State) (d : DP) :
    s.readHead d.val = (s, ⟨.accepted, [byte s.heads[d].state.code, byte s.heads[d].lastCause.code, byte s.heads[d].bucket,
      (if s.heads[d].q2 = true then 2#8 else 0#8) + if s.heads[d].q1 = true then 1#8 else 0#8]⟩) := by
  unfold State.readHead
  rw [dpOf_val]
  simp only
  rw [levelsByte_eq]

theorem readHead_of_none {s : State} {n : Nat} (h : 31 < n) : s.readHead n = (s, plain .refusedRange) := by
  unfold State.readHead
  rw [dpOf_none h]

/-- The offending item as LOAD_STATUS carries it (R171). -/
def State.itemBytes (s : State) : Byte × Byte × Byte :=
  match s.offending with
  | none => (0#8, 0#8, 0#8)
  | some o => (byte o.table.code, byte o.index, byte o.reason.code)

/-- Whether an image is in force, and its signature, as LOAD_STATUS carries them (R171). -/
def State.forceBytes (s : State) : Byte × Signature :=
  match s.inForce with
  | none => (0#8, 0#32)
  | some g => (1#8, g)

theorem loadStatus_eq (s : State) :
    State.loadStatus s = (s, ⟨.accepted, [byte s.mode.code, byte s.sub.code, byte s.mapIndex, byte s.sectIndex, s.itemBytes.1,
      s.itemBytes.2.1, s.itemBytes.2.2, s.forceBytes.1, s.forceBytes.2.extractLsb' 24 8, s.forceBytes.2.extractLsb' 16 8,
      s.forceBytes.2.extractLsb' 8 8, s.forceBytes.2.extractLsb' 0 8]⟩) := by
  unfold State.loadStatus State.itemBytes State.forceBytes
  cases s.offending <;> cases s.inForce <;> rfl

/-- Settles O33: three owners that read and answer, and touch nothing else. -/
theorem serviceReadResults : Obligations.ServiceReadResults := by
  intro s
  refine ⟨fun n hready => ⟨fun d hd => ?head, fun hrange => ?range⟩, fun hready => exec_svc rfl hready rfl, fun hready => ?status⟩
  case head =>
    subst hd
    exact exec_svc rfl hready (readHead_of_dp s.unhandSvc d)
  case range => exact exec_svc rfl hready (readHead_of_none (s := s.unhandSvc) hrange)
  case status =>
    refine ⟨s.itemBytes, s.forceBytes, exec_svc rfl hready (loadStatus_eq s.unhandSvc), fun hnone => ?_, fun o ho => ?_,
      fun hnone => ?_, fun g hg => ?_⟩
    · unfold State.itemBytes; rw [hnone]
    · unfold State.itemBytes; rw [ho]
    · unfold State.forceBytes; rw [hnone]
    · unfold State.forceBytes; rw [hg]

/-! ### Operations that take their time -/

theorem completeStart_of_good {s : State} {x : Stored} (hmode : s.mode = .starting) (htime : 100 ≤ s.opTimer) (hstore : s.store = some x)
    (hgood : signatureOf x.image.canonical = x.signature) : s.completeStart = s.enterImage x.image x.signature := by
  unfold State.completeStart
  rw [if_pos ⟨hmode, htime⟩, hstore]
  exact if_pos hgood

theorem completeStart_of_bad {s : State} (hmode : s.mode = .starting) (htime : 100 ≤ s.opTimer)
    (hbad : s.store = none ∨ ∃ x, s.store = some x ∧ signatureOf x.image.canonical ≠ x.signature) :
    s.completeStart = { s with mode := .unconfigured, image := Image.default, inForce := none, opTimer := 0 } := by
  unfold State.completeStart
  rw [if_pos ⟨hmode, htime⟩]
  rcases hbad with hempty | ⟨x, hstore, hbad⟩
  · rw [hempty]
  · rw [hstore]
    exact if_neg hbad

theorem completeVerify_of_legal {s : State} (hmode : s.mode = .verifying) (htime : 200 ≤ s.opTimer) (hlegal : s.image.firstOffence = none) :
    s.completeVerify = State.enterImage { s with store := some ⟨s.image, signatureOf s.image.canonical⟩ } s.image
      (signatureOf s.image.canonical) := by
  unfold State.completeVerify
  rw [if_pos ⟨hmode, htime⟩, hlegal]
  rfl

theorem completeVerify_of_illegal {s : State} {o : Offence} (hmode : s.mode = .verifying) (htime : 200 ≤ s.opTimer)
    (hillegal : s.image.firstOffence = some o) :
    s.completeVerify = { s with mode := .unconfigured, offending := some o, inForce := none, opTimer := 0 } := by
  unfold State.completeVerify
  rw [if_pos ⟨hmode, htime⟩, hillegal]

/-- Settles O34: each completion acts at its moment and waits for it. -/
theorem timedOperations : Obligations.TimedOperations := by
  intro s
  refine ⟨fun hmode htime => ⟨fun x hstore hgood => ?good, fun hbad => ?bad⟩, fun hnot => ?noStart, fun hmode hsub htime => ?clears,
    fun hnot => ?noClearing, fun hmode htime => ⟨fun hlegal => ?legal, fun o hillegal => ?illegal⟩, fun hnot => ?noVerify⟩
  all_goals refine congrArg Host.Outcome.next ?_
  case good => exact completeStart_of_good hmode htime hstore hgood
  case bad => exact completeStart_of_bad hmode htime hbad
  case legal => exact completeVerify_of_legal hmode htime hlegal
  case illegal => exact completeVerify_of_illegal hmode htime hillegal
  case clears => exact if_pos ⟨hmode, hsub, htime⟩
  case noStart | noClearing | noVerify => exact if_neg hnot

/-! ### Image entry -/

theorem mem_boundingSet (i : Image) (k : SectNo) (d : DP) : d ∈ i.boundingSet k ↔ ∃ x ∈ i.map[d].terms, x.sect = k := by
  simp only [Image.boundingSet, List.mem_filter, List.mem_finRange, true_and, List.any_eq_true, decide_eq_true_eq]

/-- The supervision that names a link and no other (R99). -/
def Supervision.alone : SupLink → Supervision
  | .sl0 => .sl0
  | .sl1 => .sl1

theorem names_iff (v : Supervision) (l : SupLink) : v.names l = true ↔ v = .shared ∨ v = .alone l := by
  cases v <;> cases l <;> simp [Supervision.names, Supervision.alone]

theorem routingSet_has (i : Image) (d : DP) (l : SupLink) :
    (i.routingSet d).has l = true ↔ ∃ x ∈ i.map[d].terms, i.supervision x.sect = .shared ∨ i.supervision x.sect = .alone l := by
  have hany : (i.routingSet d).has l = i.map[d].terms.any fun t => (i.supervision t.sect).names l := by cases l <;> rfl
  rw [hany]
  simp only [List.any_eq_true, names_iff]

/-- Settles O36: image entry field by field, with the derived sets read as the map gives them. -/
theorem imageEntryEffects : Obligations.ImageEntryEffects := by
  intro s i g t
  refine ⟨⟨rfl, rfl, rfl, rfl, rfl, rfl, rfl⟩, fun d => enterImage_heads s i g d, ⟨fun k d => ?bounding, fun d l => ?routing, fun d => ?codes⟩,
    ⟨reset_get, notFree_get, rfl, rfl⟩, fun l => ?links, rfl⟩
  case bounding =>
    have hget : t.bounding[k] = i.boundingSet k := tabulate_get _ k
    rw [hget, mem_boundingSet]
  case routing =>
    have hget : t.routing[d] = i.routingSet d := tabulate_get _ d
    rw [hget]
    refine (routingSet_has i d l).trans ?_
    cases l <;> exact Iff.rfl
  case codes => exact tabulate_get _ d
  case links => cases l <;> rfl

end Sys2Proof.Machine
end

section
/-! PROOFS. The judgement of a map (R30): the first term of an entry that offends, the first entry with one, and then the first section without a
boundary. -/

namespace Sys2Proof.Machine

/-! ### One entry -/

/-- An entry has no offending term exactly if its terms name used sections, none twice and none already seen (R30). -/
theorem termsReason_none_iff (i : Image) (seen : List SectNo) (ts : List Term) :
    termsReason i seen ts = none ↔
      (∀ t ∈ ts, i.supervision t.sect ≠ .unused) ∧ (∀ t ∈ ts, t.sect ∉ seen) ∧ (ts.map (·.sect)).Nodup := by
  induction ts generalizing seen with
  | nil => simp [termsReason]
  | cons t ts ih =>
    unfold termsReason
    by_cases hunused : i.supervision t.sect = .unused
    · rw [if_pos hunused]
      exact ⟨fun h => (nomatch h), fun h => absurd hunused (h.1 t List.mem_cons_self)⟩
    · rw [if_neg hunused]
      by_cases hseen : t.sect ∈ seen
      · rw [if_pos hseen]
        exact ⟨fun h => (nomatch h), fun h => absurd hseen (h.2.1 t List.mem_cons_self)⟩
      · rw [if_neg hseen, ih]
        have hfresh : (∀ x ∈ ts, x.sect ∉ t.sect :: seen) ↔ t.sect ∉ ts.map (·.sect) ∧ ∀ x ∈ ts, x.sect ∉ seen := by
          simp only [List.mem_cons, not_or, List.mem_map, not_exists, not_and]
          exact forall₂_and
        rw [hfresh, List.forall_mem_cons, List.forall_mem_cons, List.map_cons, List.nodup_cons]
        exact ⟨fun ⟨hused, ⟨hne, hnot⟩, hnodup⟩ => ⟨⟨hunused, hused⟩, ⟨hseen, hnot⟩, hne, hnodup⟩,
          fun ⟨⟨_, hused⟩, ⟨_, hnot⟩, hne, hnodup⟩ => ⟨hused, ⟨hne, hnot⟩, hnodup⟩⟩

/-- What the first offending term of an entry is: the terms before it offend in nothing, and it names an unused section, or one that an earlier
term or the terms seen before have named (R30). -/
theorem termsReason_some (i : Image) (seen : List SectNo) (ts : List Term) (r : Reason) (h : termsReason i seen ts = some r) :
    ∃ before t after, ts = before ++ t :: after ∧ (∀ u ∈ before, i.supervision u.sect ≠ .unused) ∧ (before.map (·.sect)).Nodup ∧
      (∀ u ∈ before, u.sect ∉ seen) ∧
      ((r = .unusedSection ∧ i.supervision t.sect = .unused) ∨
        (r = .duplicateSection ∧ i.supervision t.sect ≠ .unused ∧ (t.sect ∈ before.map (·.sect) ∨ t.sect ∈ seen))) := by
  induction ts generalizing seen with
  | nil => cases h
  | cons t ts ih =>
    unfold termsReason at h
    by_cases hunused : i.supervision t.sect = .unused
    · rw [if_pos hunused] at h
      exact ⟨[], t, ts, rfl, by simp, by simp, by simp, .inl ⟨(Option.some.inj h).symm, hunused⟩⟩
    · rw [if_neg hunused] at h
      by_cases hseen : t.sect ∈ seen
      · rw [if_pos hseen] at h
        exact ⟨[], t, ts, rfl, by simp, by simp, by simp, .inr ⟨(Option.some.inj h).symm, hunused, .inr hseen⟩⟩
      · rw [if_neg hseen] at h
        obtain ⟨before, x, after, hts, hused, hnodup, hnot, hwhy⟩ := ih (t.sect :: seen) h
        have hfresh (u : Term) (hu : u ∈ before) : u.sect ≠ t.sect ∧ u.sect ∉ seen := by
          have hmem := hnot u hu
          rwa [List.mem_cons, not_or] at hmem
        refine ⟨t :: before, x, after, by rw [hts]; rfl, List.forall_mem_cons.mpr ⟨hunused, hused⟩, ?_,
          List.forall_mem_cons.mpr ⟨hseen, fun u hu => (hfresh u hu).2⟩, hwhy.imp id fun ⟨hr, hx, hdup⟩ => ⟨hr, hx, ?_⟩⟩
        · rw [List.map_cons, List.nodup_cons]
          refine ⟨fun hmem => ?_, hnodup⟩
          obtain ⟨u, hu, hut⟩ := List.mem_map.mp hmem
          exact (hfresh u hu).1 hut
        · rw [List.map_cons, List.mem_cons]
          rcases hdup with hmem | hmem
          · exact .inl (.inr hmem)
          · exact (List.mem_cons.mp hmem).imp .inl id

/-! ### The first in the order of the numbers -/

/-- A search over all numbers finds the first one that answers. -/
theorem findSome_finRange {n : Nat} {α : Type} {f : Fin n → Option α} {x : α} (h : (List.finRange n).findSome? f = some x) :
    ∃ d, f d = some x ∧ ∀ c, c < d → f c = none := by
  obtain ⟨before, d, after, hsplit, hd, hnone⟩ := List.findSome?_eq_some_iff.mp h
  refine ⟨d, hd, fun c hc => hnone c ?_⟩
  have hsorted : (before ++ d :: after).Pairwise (· < ·) := hsplit ▸ List.pairwise_lt_finRange n
  have hmem : c ∈ before ++ d :: after := hsplit ▸ List.mem_finRange c
  rcases List.mem_append.mp hmem with hbefore | hrest
  · exact hbefore
  · rcases List.mem_cons.mp hrest with rfl | hafter
    · exact absurd hc (lt_irrefl c)
    · exact absurd ((List.pairwise_cons.mp (List.pairwise_append.mp hsorted).2.1).1 c hafter) (lt_asymm hc)

theorem findSome_finRange_none {n : Nat} {α : Type} {f : Fin n → Option α} :
    (List.finRange n).findSome? f = none ↔ ∀ d, f d = none := by
  simp only [List.findSome?_eq_none_iff, List.mem_finRange, true_implies]

/-! ### The two parts of the judgement -/

/-- The offence of a map entry. -/
def Image.mapOffence (i : Image) (d : DP) : Option Offence := (termsReason i [] i.map[d].terms).map fun r => ⟨.map, d.val, r⟩

/-- The offence of a section entry. -/
def Image.sectOffence (i : Image) (k : SectNo) : Option Offence :=
  if i.supervision k ≠ .unused ∧ i.boundingSet k = [] then some ⟨.sect, k.val, .noBoundary⟩ else none

theorem firstOffence_eq (i : Image) :
    i.firstOffence = ((List.finRange 32).findSome? i.mapOffence).or ((List.finRange 24).findSome? i.sectOffence) := rfl

theorem mapOffence_none_iff (i : Image) (d : DP) :
    i.mapOffence d = none ↔ (∀ t ∈ i.map[d].terms, i.supervision t.sect ≠ .unused) ∧ (i.map[d].terms.map (·.sect)).Nodup := by
  unfold Image.mapOffence
  rw [Option.map_eq_none_iff, termsReason_none_iff]
  exact and_congr_right fun _ => and_iff_right fun _ _ => List.not_mem_nil

theorem sectOffence_none_iff (i : Image) (k : SectNo) :
    i.sectOffence k = none ↔ (i.supervision k ≠ .unused → i.boundingSet k ≠ []) := by
  unfold Image.sectOffence
  by_cases h : i.supervision k ≠ .unused ∧ i.boundingSet k = []
  · rw [if_pos h]
    exact ⟨fun hc => (nomatch hc), fun hc => absurd h.2 (hc h.1)⟩
  · rw [if_neg h]
    exact ⟨fun _ hused hempty => h ⟨hused, hempty⟩, fun _ => rfl⟩

theorem boundingSet_ne_nil_iff (i : Image) (k : SectNo) : i.boundingSet k ≠ [] ↔ ∃ d : DP, ∃ t ∈ i.map[d].terms, t.sect = k := by
  refine ⟨fun h => ?_, fun ⟨d, hd⟩ => List.ne_nil_of_mem ((mem_boundingSet i k d).mpr hd)⟩
  obtain ⟨d, hd⟩ := List.exists_mem_of_ne_nil _ h
  exact ⟨d, (mem_boundingSet i k d).mp hd⟩

/-- Settles O35: the map's offences are looked for first, in order, and the section's only where there is none. -/
theorem legalityJudgement : Obligations.LegalityJudgement := by
  intro i
  refine ⟨?none, fun o ho => ?some⟩
  case none =>
    rw [firstOffence_eq, Option.or_eq_none_iff, findSome_finRange_none, findSome_finRange_none]
    simp only [mapOffence_none_iff, sectOffence_none_iff, boundingSet_ne_nil_iff, forall_and, and_assoc]
  case some =>
    rw [firstOffence_eq, Option.or_eq_some_iff] at ho
    rcases ho with hmap | ⟨hnoMap, hsect⟩
    · obtain ⟨d, hd, hbefore⟩ := findSome_finRange hmap
      obtain ⟨r, hr, rfl⟩ := Option.map_eq_some_iff.mp hd
      obtain ⟨before, t, after, hts, hused, hnodup, _, hwhy⟩ := termsReason_some i [] _ r hr
      refine ⟨fun _ => ⟨?_, d, rfl, fun c hc => (mapOffence_none_iff i c).mp (hbefore c hc), before, t, after, hts, hused, hnodup, ?_, ?_⟩,
        fun htable => (nomatch htable)⟩
      · rcases hwhy with ⟨rfl, _⟩ | ⟨rfl, _⟩ <;> exact fun hc => (nomatch hc)
      · rcases hwhy with ⟨rfl, hunused⟩ | ⟨rfl, hne, _⟩
        · exact ⟨fun _ => hunused, fun _ => rfl⟩
        · exact ⟨fun hc => (nomatch hc), fun hc => absurd hc hne⟩
      · rcases hwhy with ⟨rfl, hunused⟩ | ⟨rfl, hne, hdup⟩
        · exact ⟨fun hc => (nomatch hc), fun hc => absurd hunused hc.1⟩
        · exact ⟨fun _ => ⟨hne, hdup.resolve_right List.not_mem_nil⟩, fun _ => rfl⟩
    · obtain ⟨k, hk, hbefore⟩ := findSome_finRange hsect
      unfold Image.sectOffence at hk
      split at hk
      case isFalse => cases hk
      case isTrue hempty =>
        obtain rfl := Option.some.inj hk
        exact ⟨fun htable => (nomatch htable), fun _ => ⟨rfl, fun d => (mapOffence_none_iff i d).mp (findSome_finRange_none.mp hnoMap d),
          k, rfl, hempty.1, hempty.2, fun j hj => (sectOffence_none_iff i j).mp (hbefore j hj)⟩⟩

end Sys2Proof.Machine
end

section
/-! PROOFS. The service key, the refusals of the Image Controller (R148, R149) and the writes of a load (R29, R145, R152 to R154). -/

namespace Sys2Proof.Machine

/-! ### The key as a request finds it -/

/-- The key seen: an inactive one abandons a load (R149; log 7). -/
theorem seeKey_eq (s : State) (key : Bool) :
    s.seeKey key =
      if key = false ∧ s.mode = .loading then { s with svkey := false, mode := .unconfigured, sub := .none, opTimer := 0 }
      else { s with svkey := key } := by
  cases key with
  | true => exact (if_neg fun h => Bool.false_ne_true h.1.symm).symm
  | false =>
    by_cases hmode : s.mode = .loading
    · rw [seeKey_inactive_loading s hmode, if_pos ⟨rfl, hmode⟩]
    · rw [seeKey_inactive_other s hmode, if_neg fun h => hmode h.2]

/-- What the owner of a service request finds under a level of the key. -/
theorem seeKey_unhandSvc (s : State) (key : Bool) : s.unhandSvc.seeKey key = (s.seeKey key).unhandSvc := by
  rw [seeKey_eq, seeKey_eq]
  change (if key = false ∧ s.mode = .loading then _ else _) = _
  split <;> rfl

theorem seeKey_svkey (s : State) (key : Bool) : (s.seeKey key).svkey = key := by
  rw [seeKey_eq]
  split
  case isTrue h => exact h.1.symm
  case isFalse => rfl

/-- Only a load is left by seeing the key (R149). -/
theorem seeKey_mode {s : State} {key : Bool} {m : Mode} (hm : m ≠ .unconfigured) (h : (s.seeKey key).mode = m) : s.mode = m := by
  rw [seeKey_eq] at h
  split at h
  case isTrue => exact absurd h.symm hm
  case isFalse => exact h

theorem seeKey_of_other {s : State} (key : Bool) (h : s.mode ≠ .loading) : s.seeKey key = { s with svkey := key } := by
  rw [seeKey_eq, if_neg fun hc => h hc.2]

/-! ### The refusals -/

/-- The refusal that a request of the Image Controller is judged by: that of the writes, or that of LOAD_BEGIN and RESTART (R148). -/
def refusalOf (writes : Bool) (s : State) : Option Result := if writes then s.refuseWrite else s.refuseBegin

theorem refusalOf_busy {t : State} (writes : Bool) (h : t.mode = .starting ∨ t.mode = .verifying) :
    refusalOf writes t = some .refusedBusy := by
  unfold refusalOf State.refuseWrite State.refuseBegin
  rcases h with h | h <;> rw [h] <;> cases writes <;> rfl

theorem refusalOf_inactive {t : State} (writes : Bool) (hkey : t.svkey = false) (hstarting : t.mode ≠ .starting)
    (hverifying : t.mode ≠ .verifying) : refusalOf writes t = some .refusedKey := by
  unfold refusalOf State.refuseWrite State.refuseBegin
  rw [hkey]
  cases hmode : t.mode with
  | starting => exact absurd hmode hstarting
  | verifying => exact absurd hmode hverifying
  | unconfigured | loading | awaitEndorse | counting | halted => cases writes <;> rfl

theorem refusalOf_locked {t : State} (writes : Bool) (hkey : t.svkey = true) (hmode : t.mode = .counting) :
    refusalOf writes t = some .refusedLocked := by
  unfold refusalOf State.refuseWrite State.refuseBegin
  rw [hkey, hmode]
  cases writes <;> rfl

theorem refuseWrite_mode {t : State} (hkey : t.svkey = true) (hmode : t.mode = .unconfigured ∨ t.mode = .awaitEndorse ∨ t.mode = .halted) :
    t.refuseWrite = some .refusedMode := by
  unfold State.refuseWrite
  rcases hmode with hmode | hmode | hmode <;> rw [hkey, hmode] <;> rfl

theorem refuseWrite_clearing {t : State} (hkey : t.svkey = true) (hmode : t.mode = .loading) (hsub : t.sub = .clearing) :
    t.refuseWrite = some .refusedBusy := by
  unfold State.refuseWrite
  rw [hkey, hmode, hsub]
  rfl

theorem refuseWrite_filling {t : State} (hkey : t.svkey = true) (hmode : t.mode = .loading) (hsub : t.sub = .filling) :
    t.refuseWrite = none := by
  unfold State.refuseWrite
  rw [hkey, hmode, hsub]
  rfl

theorem refuseBegin_taken {t : State} (hkey : t.svkey = true)
    (hmode : t.mode = .unconfigured ∨ t.mode = .loading ∨ t.mode = .awaitEndorse ∨ t.mode = .halted) : t.refuseBegin = none := by
  unfold State.refuseBegin
  rcases hmode with hmode | hmode | hmode | hmode <;> rw [hkey, hmode] <;> rfl

/-- The requests that the key judges, with the request handed on, its kind, and whether it is judged as a write. -/
def keyedRequests (key : Bool) (table index dp a b c e : Nat) (terms : List WireTerm) (g : Globals) (p q : LinkParams) :
    List (Instr × SvcRequest × Byte × Bool) :=
  [(.loadBegin key, .loadBegin, 0x21#8, false), (.restart key, .restart, 0x28#8, false),
    (.loadIndex key table index, .loadIndex table index, 0x23#8, true), (.mapEntry key dp terms, .mapEntry dp terms, 0x24#8, true),
    (.sectionEntry key a b c e, .sectionEntry a b c e, 0x25#8, true), (.globalEntry key g p q, .globalEntry g p q, 0x26#8, true),
    (.loadEnd key, .loadEnd, 0x27#8, true)]

/-- Every such request is taken by an owner that the key judges first (R148). -/
theorem keyedRequests_judged (s : State) (key : Bool) (table index dp a b c e : Nat) (terms : List WireTerm) (g : Globals)
    (p q : LinkParams) {m : Instr × SvcRequest × Byte × Bool} (hm : m ∈ keyedRequests key table index dp a b c e terms g p q) :
    ∃ act, exec m.1 s = .next (s.takeSvc m.2.1 (State.judgedByKey key (refusalOf m.2.2.2) act)) ∧ svcKind m.2.1 = m.2.2.1 := by
  simp only [keyedRequests, List.mem_cons, List.not_mem_nil, or_false] at hm
  obtain rfl | rfl | rfl | rfl | rfl | rfl | rfl := hm <;> exact ⟨_, rfl, rfl⟩

/-- Settles O37: the key is seen, and the refusal depends on the mode, the sub-state and the key alone. -/
theorem keyAndServiceRefusals : Obligations.KeyAndServiceRefusals := by
  refine ⟨fun s => ⟨fun hmode => ?loading, fun hmode => ?other⟩, fun s key table index dp a b c e terms g p q m hm hready => ?_⟩
  case loading => exact congrArg Host.Outcome.next (seeKey_inactive_loading s hmode)
  case other => exact congrArg Host.Outcome.next (seeKey_inactive_other s hmode)
  obtain ⟨act, hexec, hkind⟩ := keyedRequests_judged s key table index dp a b c e terms g p q hm
  intro found refused
  have hfound : s.seeKey key = found := seeKey_eq s key
  have answered {r : Result} (h : refusalOf m.2.2.2 found.unhandSvc = some r) : refused r := by
    have hseen : s.unhandSvc.seeKey key = found.unhandSvc := by rw [seeKey_unhandSvc, hfound]
    have hjudged := judgedByKey_refused key (refusalOf m.2.2.2) act s.unhandSvc r (by rw [hseen]; exact h)
    rw [hseen] at hjudged
    have hanswer := exec_svc hexec hready hjudged
    rwa [hkind] at hanswer
  have hkeyed : found.unhandSvc.svkey = key := (congrArg State.svkey hfound).symm.trans (seeKey_svkey s key)
  have hother (hmode : s.mode ≠ .loading) : found.unhandSvc.mode = s.mode := by
    change found.mode = s.mode
    rw [← hfound, seeKey_of_other key hmode]
  refine ⟨fun hbusy => ?_, fun hstarting hverifying hkey => ?_, fun hmode hkey => ?_, fun hwrites hkey hmode => ?_,
    fun hwrites hkey hmode hsub => ?_⟩
  · refine answered (refusalOf_busy _ ?_)
    rw [hother (by rcases hbusy with h | h <;> rw [h] <;> decide)]
    exact hbusy
  · refine answered (refusalOf_inactive _ (hkeyed.trans hkey) (fun hc => hstarting ?_) fun hc => hverifying ?_)
    · exact seeKey_mode (key := key) (by decide) (by rw [hfound]; exact hc)
    · exact seeKey_mode (key := key) (by decide) (by rw [hfound]; exact hc)
  · refine answered (refusalOf_locked _ (hkeyed.trans hkey) ?_)
    rw [hother (by rw [hmode]; decide)]
    exact hmode
  · rw [hwrites] at answered
    refine answered (refuseWrite_mode (hkeyed.trans hkey) ?_)
    rw [hother (by rcases hmode with h | h | h <;> rw [h] <;> decide)]
    exact hmode
  · rw [hwrites] at answered
    have hactive : found = { s with svkey := true } := by rw [← hfound, hkey]; rfl
    refine answered (refuseWrite_clearing (hkeyed.trans hkey) ?_ ?_) <;> rw [hactive]
    · exact hmode
    · exact hsub

/-! ### The writes of a load -/

/-- A write in FILLING with the key active is acted on (R148, R152 to R154). -/
theorem exec_write {s t : State} {c : Instr} {r : SvcRequest} {act : State → State × Answer} {a : Answer}
    (hexec : exec c s = .next (s.takeSvc r (State.judgedByKey true State.refuseWrite act))) (hready : s.readySvc r)
    (hmode : s.mode = .loading) (hsub : s.sub = .filling) (h : act (State.unhandSvc { s with svkey := true }) = (t, a)) :
    exec c s = .next (t.respond .svl (svcKind r) a) :=
  exec_svc hexec hready ((judgedByKey_taken true State.refuseWrite act s.unhandSvc (refuseWrite_filling rfl hmode hsub)).trans h)

/-- Settles O40: the two indices with their ranges, and the end of the load. -/
theorem loadIndexAndEnd : Obligations.LoadIndexAndEnd := by
  intro s hmode hsub u
  refine ⟨fun table index hready => ⟨fun htable hindex => ?map, fun htable hindex => ?sect, fun hout => ?out⟩, fun hready => ?ends⟩
  case map => exact exec_write rfl hready hmode hsub (if_pos ⟨htable, hindex⟩)
  case sect => exact exec_write rfl hready hmode hsub ((if_neg (by omega)).trans (if_pos ⟨htable, hindex⟩))
  case out => exact exec_write rfl hready hmode hsub ((if_neg (by omega)).trans (if_neg (by omega)))
  case ends => exact exec_write rfl hready hmode hsub rfl

/-! ### MAP_ENTRY -/

/-- A term as MAP_ENTRY carries it. -/
def Term.wire (t : Term) : WireTerm := ⟨t.sect.val, t.sense, t.notify⟩

theorem sectOf_val (k : SectNo) : sectOf k.val = some k := dif_pos k.isLt

theorem sectOf_none {n : Nat} (h : 23 < n) : sectOf n = none := dif_neg (by omega)

/-- Terms that each name a section are taken in the order carried (R29, R153). -/
theorem termsOf_some (terms : List WireTerm) (h : ∀ t ∈ terms, t.sect ≤ 23) :
    ∃ ts, termsOf terms = some ts ∧ ts.map Term.wire = terms := by
  induction terms with
  | nil => exact ⟨[], rfl, rfl⟩
  | cons t terms ih =>
    obtain ⟨hfirst, hrest⟩ := List.forall_mem_cons.mp h
    obtain ⟨ts, hts, hwire⟩ := ih hrest
    have hsect : sectOf t.sect = some ⟨t.sect, by omega⟩ := dif_pos (by omega)
    refine ⟨⟨⟨t.sect, by omega⟩, t.sense, t.notify⟩ :: ts, ?_, ?_⟩
    · unfold termsOf
      rw [hsect, hts]
    · rw [List.map_cons, hwire]
      rfl

theorem termsOf_none (terms : List WireTerm) (h : ∃ t ∈ terms, 23 < t.sect) : termsOf terms = none := by
  induction terms with
  | nil => obtain ⟨t, ht, _⟩ := h; cases ht
  | cons t terms ih =>
    unfold termsOf
    by_cases hfirst : 23 < t.sect
    · rw [sectOf_none hfirst]
    · have hrest : termsOf terms = none := by
        obtain ⟨x, hx, hlt⟩ := h
        rcases List.mem_cons.mp hx with rfl | hx
        · exact absurd hlt hfirst
        · exact ih ⟨x, hx, hlt⟩
      rw [hrest]
      cases sectOf t.sect <;> rfl

theorem termsOf_length {terms : List WireTerm} {ts : List Term} (h : termsOf terms = some ts) : ts.length = terms.length := by
  by_cases hsects : ∀ t ∈ terms, t.sect ≤ 23
  · obtain ⟨ts', hts, hwire⟩ := termsOf_some terms hsects
    rw [← Option.some.inj (hts.symm.trans h), ← hwire, List.length_map]
  · rw [termsOf_none terms (by simpa using hsects)] at h
    cases h

/-- A map entry that a check turns away writes nothing (R29). -/
theorem writeMap_refused {s : State} {n : Nat} {terms : List WireTerm}
    (h : 31 < n ∨ n ≠ s.mapIndex ∨ 4 < terms.length ∨ ∃ t ∈ terms, 23 < t.sect) :
    State.writeMap n terms s = (s, plain .refusedRange) := by
  unfold State.writeMap
  split
  case h_1 d ts hd hts =>
    have hlength := termsOf_length hts
    have hdp : d.val = n := dpOf_some hd
    refine if_neg fun hok => ?_
    rcases h with h | h | h | h
    · have := d.isLt; omega
    · exact h hok.1
    · omega
    · rw [termsOf_none terms h] at hts; cases hts
  case h_2 | h_3 => rfl

theorem writeMap_taken {s : State} {d : DP} {terms : List WireTerm} {ts : List Term} (hts : termsOf terms = some ts)
    (hindex : d.val = s.mapIndex) (hlength : terms.length ≤ 4) :
    State.writeMap d.val terms s =
      ({ s with image := { s.image with map := s.image.map.set d ⟨ts⟩ }, mapIndex := s.mapIndex + 1 }, plain .accepted) := by
  unfold State.writeMap
  rw [dpOf_val, hts]
  exact if_pos ⟨hindex, by rw [termsOf_length hts]; exact hlength⟩

/-- Settles O41: one check that fails refuses the entry, and otherwise its terms are those carried. -/
theorem mapEntryResult : Obligations.MapEntryResult := by
  intro s dp terms hmode hsub hready u
  refine ⟨fun hrefused => exec_write rfl hready hmode hsub (writeMap_refused hrefused), fun d hd hindex hlength hsects => ?_⟩
  obtain ⟨ts, hts, hwire⟩ := termsOf_some terms hsects
  subst hd
  refine ⟨ts, hwire, ?_⟩
  rw [show d.val + 1 = s.mapIndex + 1 by rw [hindex]]
  exact exec_write rfl hready hmode hsub (writeMap_taken (s := u) hts hindex hlength)

/-! ### SECTION_ENTRY and GLOBAL_ENTRY -/

theorem clampTo_zero (hi n : Nat) : clampTo 0 hi n = min n hi := by
  unfold clampTo; omega

theorem within_eq {lo hi : Nat} (h : lo ≤ hi) (n : Nat) : within lo hi n = clampTo lo hi n := by
  unfold within clampTo
  split
  · omega
  · split <;> omega

theorem ofCode_code (v : Supervision) : Supervision.ofCode v.code = some v := by cases v <;> rfl

theorem ofCode_none {n : Nat} (h : 3 < n) : Supervision.ofCode n = none := by
  unfold Supervision.ofCode
  split <;> first | omega | rfl

theorem directOfCode_some {n : Nat} (h : n ≤ 1) : directOfCode n = some (decide (n = 1)) := by
  obtain rfl | rfl : n = 0 ∨ n = 1 := by omega
  · rfl
  · rfl

theorem directOfCode_none {n : Nat} (h : 1 < n) : directOfCode n = none := by
  unfold directOfCode
  split <;> first | omega | rfl

/-- A code that names nothing, or an index past the last entry, refuses the whole entry (R145, R153). -/
theorem writeSect_refused {s : State} {supervision direct ext quiet : Nat} (h : 3 < supervision ∨ 1 < direct ∨ 23 < s.sectIndex) :
    State.writeSect supervision direct ext quiet s = (s, plain .refusedRange) := by
  unfold State.writeSect
  split
  case h_1 k v b hk hv hb =>
    exfalso
    rcases h with h | h | h
    · rw [ofCode_none h] at hv; cases hv
    · rw [directOfCode_none h] at hb; cases hb
    · rw [sectOf_none h] at hk; cases hk
  case h_2 => rfl

theorem sectEntry_clamp_iff (v : Supervision) (b : Bool) (ext quiet : Nat) :
    (SectEntry.mk v b ext quiet).clamp = ⟨v, b, ext, quiet⟩ ↔ ext ≤ 15 ∧ quiet ≤ 8 := by
  change SectEntry.mk v b (clampTo 0 15 ext) (clampTo 0 8 quiet) = ⟨v, b, ext, quiet⟩ ↔ _
  simp only [SectEntry.mk.injEq, clampTo_zero, true_and]
  omega

theorem writeSect_taken {s : State} {k : SectNo} {v : Supervision} {direct : Nat} (ext quiet : Nat) (hk : k.val = s.sectIndex)
    (hdirect : direct ≤ 1) :
    State.writeSect v.code direct ext quiet s =
      ({ s with
          image := { s.image with sects := s.image.sects.set k ⟨v, decide (direct = 1), min ext 15, min quiet 8⟩ }
          sectIndex := s.sectIndex + 1 },
        plain (if ext ≤ 15 ∧ quiet ≤ 8 then .accepted else .clamped)) := by
  have hclamp : (SectEntry.mk v (decide (direct = 1)) ext quiet).clamp = ⟨v, decide (direct = 1), min ext 15, min quiet 8⟩ := by
    rw [← clampTo_zero, ← clampTo_zero]; rfl
  have hresult : (if (SectEntry.mk v (decide (direct = 1)) ext quiet).clamp = ⟨v, decide (direct = 1), ext, quiet⟩ then Result.accepted
      else .clamped) = if ext ≤ 15 ∧ quiet ≤ 8 then .accepted else .clamped :=
    if_congr (sectEntry_clamp_iff v (decide (direct = 1)) ext quiet) rfl rfl
  unfold State.writeSect
  rw [← hk, sectOf_val, ofCode_code, directOfCode_some hdirect]
  simp only
  rw [hresult, hclamp]

/-- Settles O42: an entry written with its numbers brought within their ranges, and CLAMPED where that changed one. -/
theorem sectionAndGlobalEntries : Obligations.SectionAndGlobalEntries := by
  refine ⟨fun s v supervision direct ext quiet hmode hsub hready => ?sect, fun s g p q hmode hsub hready => ?globals⟩
  case sect =>
    intro u
    refine ⟨fun hrefused => exec_write rfl hready hmode hsub (writeSect_refused hrefused), fun k hk hv hdirect => ?_⟩
    subst hv
    exact exec_write rfl hready hmode hsub (writeSect_taken (s := u) ext quiet hk hdirect)
  case globals =>
    intro u g' p' q'
    have hg : g.clamp = g' := by simp only [g', Globals.clamp, within_eq, Nat.reduceLeDiff]
    have hp : p.clamp = p' := by simp only [p', LinkParams.clamp, within_eq, Nat.reduceLeDiff]
    have hq : q.clamp = q' := by simp only [q', LinkParams.clamp, within_eq, Nat.reduceLeDiff]
    rw [← hg, ← hp, ← hq]
    exact exec_write rfl hready hmode hsub rfl

end Sys2Proof.Machine
end

section
/-! PROOFS. The Image Controller's requests that change the mode: LOAD_BEGIN, RESTART, ENDORSE and WITHDRAW (R76, R78, R150, R156 to R158). -/

namespace Sys2Proof.Machine

/-! ### LOAD_BEGIN and RESTART -/

/-- LOAD_BEGIN or RESTART with the key active, in a mode that does not refuse it, is acted on (R148). -/
theorem exec_begin {s : State} {c : Instr} {r : SvcRequest} {act : State → State × Answer} {a : Answer}
    (hexec : exec c s = .next (s.takeSvc r (State.judgedByKey true State.refuseBegin act))) (hready : s.readySvc r)
    (hmode : s.mode = .unconfigured ∨ s.mode = .loading ∨ s.mode = .awaitEndorse ∨ s.mode = .halted)
    (h : (act (State.unhandSvc { s with svkey := true })).2 = a) :
    exec c s = .next ((act (State.unhandSvc { s with svkey := true })).1.respond .svl (svcKind r) a) :=
  exec_svc hexec hready ((judgedByKey_taken true State.refuseBegin act s.unhandSvc (refuseBegin_taken rfl hmode)).trans (by rw [← h]; rfl))

/-- Settles O38: the load's state in the form that lists its fields, and the answer in the slot. -/
theorem loadBeginResult : Obligations.LoadBeginResult := by
  intro s hready hmode
  have hexec := exec_begin (s := s) (c := .loadBegin true) (r := .loadBegin) (act := State.beginLoad) rfl hready hmode rfl
  rw [beginLoad_eq] at hexec
  refine ⟨_, hexec, ⟨rfl, rfl, rfl, rfl, rfl, rfl, rfl, rfl, rfl, rfl⟩, fun hrun d => ?running, fun hheld => ?held, ⟨rfl, rfl, rfl⟩,
    ⟨reset_get, notFree_get, rfl, rfl⟩, ⟨rfl, rfl, rfl, rfl, rfl⟩, fun l => by cases l <;> rfl, rfl, rfl⟩
  case running =>
    change (if s.mode.running = true then tabulate fun e => s.heads[e].toUnknown heldQual else s.heads)[d] = _
    rw [if_pos hrun]
    exact tabulate_get _ d
  case held => exact if_neg (by change ¬ s.mode.running = true; rw [hheld]; decide)

/-- Settles O39: the restart's state in the form that lists its fields, and the answer in the slot. -/
theorem restartResult : Obligations.RestartResult := by
  intro s hready hmode
  have hexec := exec_begin (s := s) (c := .restart true) (r := .restart) (act := State.restart) rfl hready hmode rfl
  rw [restart_eq] at hexec
  exact ⟨_, hexec, ⟨rfl, rfl, rfl, rfl, rfl, rfl, rfl, rfl, rfl, rfl⟩, fun d => tabulate_get _ d, ⟨rfl, rfl, rfl⟩,
    ⟨reset_get, notFree_get, rfl, rfl, noRecords_get⟩, ⟨rfl, rfl, rfl, rfl, rfl, rfl⟩, fun l => by cases l <;> rfl, rfl, rfl⟩

/-! ### ENDORSE -/

/-- A supervisory request that is free to be taken is answered with what its owner makes of it (R165, R166). -/
theorem exec_sup {s t : State} {c : Instr} {l : SupLink} {r : SupRequest} {owner : State → State × Answer} {a : Answer}
    (hexec : exec c s = .next (s.takeSup l r owner)) (hready : s.readySup l r) (h : owner (s.unhandSup l) = (t, a)) :
    exec c s = .next (t.respond (.sup l) (supKind r) a) := by
  rw [hexec, takeSup_ready s l r owner hready]
  exact congrArg (fun o => Host.Outcome.next (State.respond o.1 (.sup l) (supKind r) o.2)) h

@[simp] theorem unhandSup_inForce (s : State) (l : SupLink) : (s.unhandSup l).inForce = s.inForce := setSup_inForce s l _

@[simp] theorem unhandSup_endorsed (s : State) (l m : SupLink) : (s.unhandSup l).endorsed m = s.endorsed m := by
  cases l <;> cases m <;> rfl

theorem endorse_refused {s : State} {l : SupLink} {g : Signature} (hmode : s.mode = .awaitEndorse) (hforce : s.inForce ≠ some g) :
    State.endorse l g s = (s, plain .refusedSignature) := by
  unfold State.endorse
  rw [hmode]
  exact if_neg hforce

theorem endorse_awaiting {s : State} {l : SupLink} {g : Signature} (hmode : s.mode = .awaitEndorse) (hforce : s.inForce = some g) :
    State.endorse l g s =
      (if s.endorsed l.other = true then (s.setEndorsed l true).enterCounting else s.setEndorsed l true, plain .accepted) := by
  unfold State.endorse
  rw [hmode]
  simp only
  rw [if_pos hforce, endorsed_setEndorsed_other]

theorem endorse_counting {s : State} {l : SupLink} {g : Signature} (hmode : s.mode = .counting) :
    State.endorse l g s = (s, plain (if s.inForce = some g then .accepted else .refusedSignature)) := by
  unfold State.endorse
  rw [hmode]

theorem endorse_other {s : State} {l : SupLink} {g : Signature} (hawait : s.mode ≠ .awaitEndorse) (hcounting : s.mode ≠ .counting) :
    State.endorse l g s = (s, plain .refusedMode) := by
  unfold State.endorse
  split
  case h_1 h => exact absurd h hawait
  case h_2 h => exact absurd h hcounting
  case h_3 | h_4 | h_5 | h_6 | h_7 => rfl

/-- Settles O43: the mode decides, and then the signature and the other link's endorsement. -/
theorem endorseResult : Obligations.EndorseResult := by
  intro s l g hready answered u
  have answer {t : State} {r : Result} (h : State.endorse l g u = (t, plain r)) : answered t r := exec_sup rfl hready h
  have humode : u.mode = s.mode := unhandSup_mode s l
  have huforce : u.inForce = s.inForce := unhandSup_inForce s l
  refine ⟨fun hmode => ⟨fun hforce => ?differs, fun hforce hother => ?first, fun hforce hother => ?second⟩,
    fun hmode => ⟨fun hforce => ?same, fun hforce => ?different⟩, fun hawait hcounting => ?refused⟩
  case differs => exact answer (endorse_refused (humode.trans hmode) (by rw [huforce]; exact hforce))
  case first =>
    have hendorse := endorse_awaiting (l := l) (humode.trans hmode) (huforce.trans hforce)
    rw [unhandSup_endorsed, hother] at hendorse
    exact answer hendorse
  case second =>
    have hendorse := endorse_awaiting (l := l) (humode.trans hmode) (huforce.trans hforce)
    rw [unhandSup_endorsed, hother] at hendorse
    refine answer (hendorse.trans ?_)
    cases l <;> rfl
  case same =>
    have hendorse := endorse_counting (l := l) (g := g) (humode.trans hmode)
    rw [huforce, if_pos hforce] at hendorse
    exact answer hendorse
  case different =>
    have hendorse := endorse_counting (l := l) (g := g) (humode.trans hmode)
    rw [huforce, if_neg hforce] at hendorse
    exact answer hendorse
  case refused => exact answer (endorse_other (by rw [humode]; exact hawait) (by rw [humode]; exact hcounting))

/-! ### WITHDRAW -/

/-- The state with every record gone and CONCUR_LAPSED asked for on each opener, in the statements' form (R117, R118). -/
def State.lapsed (s : State) : State :=
  { s with
    records := Vector.replicate 24 none
    lc0 := { s.lc0 with asked := s.lc0.asked ++ (List.finRange 24).flatMap fun k => s.lapses k .sl0 }
    lc1 := { s.lc1 with asked := s.lc1.asked ++ (List.finRange 24).flatMap fun k => s.lapses k .sl1 } }

theorem dropRecords_eq_lapsed (s : State) : s.dropRecords = s.lapsed := by
  rw [dropRecords_eq]
  simp only [lapse_eq_lapses]
  rfl

/-- A section that a stop of COUNTING leaves DISTURBED (R76). -/
def State.notCounting (s : State) (k : SectNo) : Sect :=
  if s.used k = true ∧ s.sects[k].state ≠ .disturbed then
    { s.sects[k] with state := .disturbed, cause := .notCounting, causeDP := none, settle := none }
  else s.sects[k]

/-- COUNTING is left: the records lapse, the used sections are disturbed, and the scrub stops (R76, R117, R128, R129). -/
theorem stopCounting_reported (s : State) :
    s.stopCounting =
      { s.lapsed.reported s.notCounting with mode := .awaitEndorse, scrubTimer := none, scrubPass := false } := by
  have hsects : (fun k => if (s.used k && true) = true then Sect.raise .notCounting none s.sects[k] else s.sects[k]) = s.notCounting := by
    funext k
    rw [raise_where, Bool.and_true]
    rfl
  unfold State.stopCounting State.raiseOn
  rw [dropRecords_eq_lapsed, changeSects_eq_reported, ← hsects]
  rfl

/-- Settles O44: the endorsement is cleared in every mode, and in COUNTING the mode is left. -/
theorem withdrawResult : Obligations.WithdrawResult := by
  intro s l hready answered u
  have answer {t : State} (h : State.withdrawEndorsement l (s.unhandSup l) = (t, plain .accepted)) : answered t :=
    exec_sup rfl hready h
  refine ⟨fun hmode => ?other, fun hmode => ?counting⟩
  case other =>
    refine answer (congrArg (fun t => (t, plain .accepted)) (if_neg ?_))
    rw [unhandSup_mode]
    exact hmode
  case counting =>
    intro lapsed disturbed
    have hwithdraw : State.withdrawEndorsement l (s.unhandSup l) = (u.stopCounting.ask .endorseLost l.other, plain .accepted) :=
      congrArg (fun t => (t, plain .accepted)) (if_pos (by rw [unhandSup_mode]; exact hmode))
    rw [stopCounting_reported] at hwithdraw
    refine answer (hwithdraw.trans ?_)
    have hlapsed : u.lapsed = lapsed := by cases l <;> rfl
    have hsects : u.notCounting = s.notCounting := by cases l <;> rfl
    rw [hlapsed, hsects]
    rfl

end Sys2Proof.Machine
end

section
/-! PROOFS. Characters and telegrams (R160 to R164): what a receiver takes, what a transmitter sends, and which telegrams a controller accepts. -/

namespace Sys2Proof.Machine

/-! ### A character received -/

/-- The rate a receiver found IDLE takes (R159; log 17). -/
def State.idleRxRate (s : State) : Link → Nat
  | .sup l => s.targetRate l
  | .svl => s.lcs.line.rxRate

/-- A character acts on its receiver, which takes its rate first where it is IDLE (R159, R163). -/
theorem takeChar_eq (s : State) (l : Link) (c : Character) :
    s.takeChar l c = s.setLine l { s.line l with
      rx := (s.line l).rx.next c
      rxRate := if (s.line l).rx = .idle then s.idleRxRate l else (s.line l).rxRate } := by
  unfold State.takeChar State.settleRxRate
  cases l with
  | svl =>
    change s.setLine .svl { s.lcs.line with rx := s.lcs.line.rx.next c } =
      s.setLine .svl { s.lcs.line with
        rx := s.lcs.line.rx.next c, rxRate := if s.lcs.line.rx = .idle then s.lcs.line.rxRate else s.lcs.line.rxRate }
    rw [ite_self]
  | sup l =>
    change (let t := if (s.sup l).line.rx = .idle then _ else s; t.setLine (.sup l) { t.line (.sup l) with rx := (t.line (.sup l)).rx.next c }) =
      s.setSup l { s.sup l with line := { (s.sup l).line with
        rx := (s.sup l).line.rx.next c, rxRate := if (s.sup l).line.rx = .idle then s.targetRate l else (s.sup l).line.rxRate } }
    by_cases hidle : (s.sup l).line.rx = .idle
    · simp only [if_pos hidle]
      cases l <;> rfl
    · simp only [if_neg hidle]
      rfl

/-- A character is good with a high stop bit and an odd number of ones among its data bits and its parity bit (R160). -/
theorem goodCharacter_iff (c : Character) :
    goodCharacter c = true ↔
      c.stop = true ∧ ((List.range 8).countP (fun i => c.data.getLsbD i) + if c.parity = true then 1 else 0) % 2 = 1 := by
  unfold goodCharacter parityError onesOf
  rw [Bool.and_eq_true, Bool.not_eq_true', decide_eq_false_iff_not]
  exact and_congr_right fun _ => Nat.mod_two_ne_zero

theorem takeCharacter_good {held : List Byte} {c : Character} (h : goodCharacter c = true) (hlen : held.length < 64) :
    takeCharacter held c = .receiving (held ++ [c.data]) := if_pos (by rw [h]; exact decide_eq_true hlen)

theorem takeCharacter_bad {held : List Byte} {c : Character} (h : ¬ goodCharacter c = true ∨ 64 ≤ held.length) :
    takeCharacter held c = .discarding := by
  refine if_neg fun hok => ?_
  obtain ⟨hgood, hlen⟩ := Bool.and_eq_true_iff.mp hok
  exact h.elim (fun hbad => hbad hgood) fun hfull => absurd (of_decide_eq_true hlen) (Nat.not_lt.mpr hfull)

/-- Settles O45: the character by the state of its receiver. -/
theorem characterResult : Obligations.CharacterResult := by
  intro s l c good x answered
  have hgood : goodCharacter c = true ↔ good := goodCharacter_iff c
  have answer {rx : Receiver} (h : x.rx.next c = rx) : answered rx := by
    refine ⟨_, rfl, ?_⟩
    rw [takeChar_eq, show (s.line l).rx.next c = rx from h]
    cases l <;> rfl
  refine ⟨fun hidle hc => ?_, fun hidle hc => ?_, fun bytes hrx => ⟨fun hc hlen => ?_, fun hc => ?_⟩, fun hrx => ?_⟩
  · exact answer (by rw [hidle]; exact takeCharacter_good (hgood.mpr hc) (by decide))
  · exact answer (by rw [hidle]; exact takeCharacter_bad (.inl (mt hgood.mp hc)))
  · exact answer (by rw [hrx]; exact takeCharacter_good (hgood.mpr hc) hlen)
  · exact answer (by rw [hrx]; exact takeCharacter_bad (hc.imp (mt hgood.mp) id))
  · exact answer (by rw [hrx]; rfl)

/-! ### What a transmitter sends -/

/-- Reading a list entry by entry gives the list. -/
theorem map_getD_range {α : Type} (xs : List α) (d : α) : (List.range xs.length).map (fun i => xs.getD i d) = xs := by
  refine List.ext_getElem (by simp) fun i h1 h2 => ?_
  rw [List.getElem_map, List.getElem_range, List.getD_eq_getElem _ _ h2]

/-- The levels of a telegram's characters, one after the other (R160, R161). -/
theorem sending_levels (bytes : List Byte) :
    (List.range (11 * bytes.length)).map (Transmitter.sending (sentCharacters bytes)).level =
      bytes.flatMap fun b => characterLevels (sentCharacter b) := by
  have hlength : ((sentCharacters bytes).flatMap characterLevels).length = 11 * bytes.length := by
    rw [telegramLevels_length, sentCharacters_length]
  rw [← hlength]
  refine (map_getD_range ((sentCharacters bytes).flatMap characterLevels) restLevel).trans ?_
  unfold sentCharacters
  rw [List.flatMap_map]

/-- The parity bit of a character sent makes the ones odd in number (R160). -/
theorem sentParity_odd (b : Byte) :
    ((List.range 8).countP (fun i => b.getLsbD i) + if (sentCharacter b).parity = true then 1 else 0) % 2 = 1 :=
  ((goodCharacter_iff (sentCharacter b)).mp (goodCharacter_sentCharacter b)).2

/-! ### Bytes and words -/

theorem byte_toNat (b : Byte) : byte b.toNat = b := by simp [byte]

theorem toNat_byte {n : Nat} (h : n ≤ 255) : (byte n).toNat = n := by
  unfold byte
  rw [BitVec.toNat_ofNat]
  omega

/-- A number of 16 bits is its two bytes, high byte first (R161). -/
theorem word16_bytes (x : BitVec 16) : x.extractLsb' 8 8 ++ x.extractLsb' 0 8 = x := by
  apply BitVec.eq_of_getLsbD_eq
  intro i hi
  rw [BitVec.getLsbD_append, BitVec.getLsbD_extractLsb', BitVec.getLsbD_extractLsb']
  by_cases h : i < 8
  · simp [h]
  · have hlt : i - 8 < 8 := by omega
    have hadd : 8 + (i - 8) = i := by omega
    simp [h, hlt, hadd]

/-- Two bytes are the bytes of the number they make. -/
theorem bytes16_append (a b : Byte) : bytes16 (a ++ b) = [a, b] := by
  have hhigh : (a ++ b : BitVec 16).extractLsb' 8 8 = a := by
    apply BitVec.eq_of_getLsbD_eq
    intro i hi
    rw [BitVec.getLsbD_extractLsb', BitVec.getLsbD_append]
    simp [hi]
  have hlow : (a ++ b : BitVec 16).extractLsb' 0 8 = b := by
    apply BitVec.eq_of_getLsbD_eq
    intro i hi
    rw [BitVec.getLsbD_extractLsb', BitVec.getLsbD_append]
    simp [hi]
  unfold bytes16
  rw [hhigh, hlow]

/-! ### Telegrams accepted -/

theorem telegram_eq (kind : Byte) (payload : List Byte) :
    telegram kind payload = syncByte :: byte (payload.length + 1) :: kind ::
      (payload ++ bytes16 (telegramCrc (byte (payload.length + 1) :: kind :: payload))) := rfl

theorem acceptTelegram_telegram {l : Link} {kind : Byte} {payload : List Byte} (hkind : takesKind l kind = true)
    (hlen : payload.length ≤ 59) : acceptTelegram l (telegram kind payload) = some (kind, payload) := by
  have hbyte : (byte (payload.length + 1)).toNat = payload.length + 1 := toNat_byte (by omega)
  unfold acceptTelegram
  rw [telegram_eq]
  simp only [hbyte, Nat.add_sub_cancel, List.take_left, List.drop_left]
  refine if_pos ⟨trivial, by omega, by omega, ?_, trivial, hkind⟩
  simp [bytes16]

/-- What is accepted is a telegram of a kind that the link takes with a payload of at most 59 bytes (R164). -/
theorem telegram_of_acceptTelegram {l : Link} {bytes : List Byte} {kind : Byte} {payload : List Byte}
    (h : acceptTelegram l bytes = some (kind, payload)) :
    takesKind l kind = true ∧ payload.length ≤ 59 ∧ bytes = telegram kind payload := by
  unfold acceptTelegram at h
  split at h
  case h_2 => cases h
  case h_1 sync len k rest =>
    simp only at h
    split at h
    case isFalse => cases h
    case isTrue hok =>
      obtain ⟨hsync, hlow, hhigh, hlength, hcrc, hkind⟩ := hok
      obtain ⟨rfl, rfl⟩ := Prod.mk.inj (Option.some.inj h)
      have hrest : rest.length = len.toNat + 1 := by simp only [List.length_cons] at hlength; omega
      have hpayload : (rest.take (len.toNat - 1)).length = len.toNat - 1 := by rw [List.length_take]; omega
      have hlen : byte ((rest.take (len.toNat - 1)).length + 1) = len := by
        rw [hpayload, Nat.sub_add_cancel hlow, byte_toNat]
      refine ⟨hkind, by omega, ?_⟩
      rw [telegram_eq, hlen, ← hcrc, List.take_append_drop, hsync]

/-- Settles O46: the levels of a byte and of a telegram, the rest levels, and the telegrams accepted. -/
theorem acceptedTelegrams : Obligations.AcceptedTelegrams := by
  refine ⟨fun b => ⟨⟨(sentCharacter b).parity, rfl, sentParity_odd b⟩, takeCharacter_good (goodCharacter_sentCharacter b) (by decide)⟩,
    fun bytes => ?sending, ⟨rfl, rfl, fun bit => ⟨rfl, rfl⟩⟩, fun l kind => ?kinds,
    fun l kind payload hkind hlen => acceptTelegram_telegram hkind hlen, fun l bytes kind payload h => telegram_of_acceptTelegram h,
    fun kind payload hlen => ?form⟩
  case sending =>
    intro sending
    have htimes : sending.bitTimes = some (11 * bytes.length) := by
      change some (11 * (sentCharacters bytes).length) = _
      rw [sentCharacters_length]
    exact ⟨htimes, sending_levels bytes, fun bit hbit => Transmitter.level_after sending _ bit htimes hbit⟩
  case kinds => cases l <;> simp only [takesKind, Bool.and_eq_true, decide_eq_true_eq]
  case form =>
    refine ⟨byte (payload.length + 1), _, _, rfl, toNat_byte (by omega), word16_bytes _⟩

end Sys2Proof.Machine
end

section
/-! PROOFS. The payload check reads back what R170 lays out, and accepts nothing else (R165, R170). -/

namespace Sys2Proof.Machine

theorem fitsByte_iff (n : Nat) : fitsByte n = true ↔ n ≤ 255 := decide_eq_true_iff

theorem byte_fits (b : Byte) : fitsByte b.toNat = true := (fitsByte_iff _).mpr (by have := b.isLt; omega)

theorem toNat_byte_of_fits {n : Nat} (h : fitsByte n = true) : (byte n).toNat = n := toNat_byte ((fitsByte_iff n).mp h)

/-! ### Supervisory requests -/

theorem word16_bytes16 (x : BitVec 16) : word16 (x.extractLsb' 8 8) (x.extractLsb' 0 8) = x := word16_bytes x

/-- A number of 32 bits is its four bytes, high byte first (R161). -/
theorem word32_bytes32 (x : BitVec 32) :
    word16 (x.extractLsb' 24 8) (x.extractLsb' 16 8) ++ word16 (x.extractLsb' 8 8) (x.extractLsb' 0 8) = x := by
  apply BitVec.eq_of_getLsbD_eq
  intro i hi
  unfold word16
  simp only [BitVec.getLsbD_append, BitVec.getLsbD_extractLsb']
  obtain h | h | h | h : i < 8 ∨ (8 ≤ i ∧ i < 16) ∨ (16 ≤ i ∧ i < 24) ∨ (24 ≤ i ∧ i < 32) := by omega
  · simp [h, show i < 16 by omega]
  · simp [h.2, show ¬ i < 8 by omega, show i - 8 < 8 by omega, show 8 + (i - 8) = i by omega]
  · simp [show ¬ i < 16 by omega, show i - 16 < 8 by omega, show 16 + (i - 16) = i by omega]
  · simp [show ¬ i < 16 by omega, show ¬ i - 16 < 8 by omega, show i - 16 - 8 < 8 by omega, show 24 + (i - 16 - 8) = i by omega]

theorem bytes32_append (a b c d : Byte) : bytes32 (word16 a b ++ word16 c d) = [a, b, c, d] := by
  have part (n : Nat) (x : Byte) (h : ∀ i, i < 8 → (word16 a b ++ word16 c d : BitVec 32).getLsbD (n + i) = x.getLsbD i) :
      (word16 a b ++ word16 c d : BitVec 32).extractLsb' n 8 = x := by
    apply BitVec.eq_of_getLsbD_eq
    intro i hi
    rw [BitVec.getLsbD_extractLsb', h i hi]
    simp [hi]
  unfold bytes32
  rw [part 24 a, part 16 b, part 8 c, part 0 d]
  all_goals
    intro i hi
    simp only [word16, BitVec.getLsbD_append]
  · simp [hi, show i < 16 by omega]
  · simp [show ¬ 8 + i < 8 by omega, show 8 + i < 16 by omega]
  · simp [hi]
  · simp [show ¬ 24 + i < 16 by omega, show ¬ 24 + i - 16 < 8 by omega, show 24 + i - 16 - 8 = i by omega]

theorem parseSup_payload (r : SupRequest) (h : supFits r = true) : parseSup (supKind r) (supPayload r) = some r := by
  cases r with
  | resetPrep k => exact congrArg (fun n => some (SupRequest.resetPrep n)) (toNat_byte_of_fits h)
  | resetDirect k => exact congrArg (fun n => some (SupRequest.resetDirect n)) (toNat_byte_of_fits h)
  | resetCancel k => exact congrArg (fun n => some (SupRequest.resetCancel n)) (toNat_byte_of_fits h)
  | sectionDetail k => exact congrArg (fun n => some (SupRequest.sectionDetail n)) (toNat_byte_of_fits h)
  | noticeAck m => exact congrArg (fun x => some (SupRequest.noticeAck x)) (word16_bytes16 m)
  | noticeMask m a => exact congrArg₂ (fun x n => some (SupRequest.noticeMask x n)) (word16_bytes16 m) (toNat_byte_of_fits h)
  | endorse g => exact congrArg (fun x => some (SupRequest.endorse x)) (word32_bytes32 g)
  | withdraw => rfl

/-- A kind outside the range of a supervisory link has no payload (R164, R165). -/
theorem parseSup_of_outside {kind : Byte} (payload : List Byte) (h : kind.toNat < 0x11 ∨ 0x18 < kind.toNat) : parseSup kind payload = none := by
  have hlt : kind.toNat < 256 := kind.isLt
  unfold parseSup
  generalize kind.toNat = n at h hlt
  obtain hlow | hhigh := h
  · interval_cases n
    all_goals rfl
  · interval_cases n
    all_goals rfl

theorem parseSup_kind {kind : Byte} {payload : List Byte} {r : SupRequest} (h : parseSup kind payload = some r) :
    kind = 0x11#8 ∨ kind = 0x12#8 ∨ kind = 0x13#8 ∨ kind = 0x14#8 ∨ kind = 0x15#8 ∨ kind = 0x16#8 ∨ kind = 0x17#8 ∨ kind = 0x18#8 := by
  by_contra hno
  simp only [not_or, ← BitVec.toNat_inj] at hno
  have houtside : kind.toNat < 0x11 ∨ 0x18 < kind.toNat := by simp at hno; omega
  exact Option.some_ne_none r (h.symm.trans (parseSup_of_outside payload houtside))

theorem payload_of_parseSup {kind : Byte} {payload : List Byte} {r : SupRequest} (h : parseSup kind payload = some r) :
    supFits r = true ∧ kind = supKind r ∧ payload = supPayload r := by
  obtain rfl | rfl | rfl | rfl | rfl | rfl | rfl | rfl := parseSup_kind h
  case inl | inr.inl | inr.inr.inl | inr.inr.inr.inl =>
    rcases payload with _ | ⟨k, _ | ⟨_, _⟩⟩ <;> cases h
    exact ⟨byte_fits k, rfl, by rw [supPayload, byte_toNat]⟩
  case inr.inr.inr.inr.inl =>
    rcases payload with _ | ⟨a, _ | ⟨b, _ | ⟨_, _⟩⟩⟩ <;> cases h
    exact ⟨rfl, rfl, (bytes16_append a b).symm⟩
  case inr.inr.inr.inr.inr.inl =>
    rcases payload with _ | ⟨a, _ | ⟨b, _ | ⟨m, _ | ⟨_, _⟩⟩⟩⟩ <;> cases h
    refine ⟨byte_fits m, rfl, ?_⟩
    rw [supPayload, byte_toNat]
    exact congrArg (· ++ [m]) (bytes16_append a b).symm
  case inr.inr.inr.inr.inr.inr.inl =>
    rcases payload with _ | ⟨a, _ | ⟨b, _ | ⟨c, _ | ⟨d, _ | ⟨_, _⟩⟩⟩⟩⟩ <;> cases h
    exact ⟨rfl, rfl, (bytes32_append a b c d).symm⟩
  case inr.inr.inr.inr.inr.inr.inr =>
    rcases payload with _ | ⟨_, _⟩ <;> cases h
    exact ⟨rfl, rfl, rfl⟩

/-! ### Terms -/

/-- A term's two bytes (R33, R170). -/
def WireTerm.bytes (t : WireTerm) : List Byte := [byte t.sect, byte (flagsNumber t.sense t.notify)]

theorem flagsNumber_read (sense : Sense) (notify : Bool) :
    (byte (flagsNumber sense notify)).toNat ≤ 3 ∧
      (if (byte (flagsNumber sense notify)).toNat % 2 = 0 then Sense.inOnN else .inOnR) = sense ∧
      decide (2 ≤ (byte (flagsNumber sense notify)).toNat) = notify := by
  cases sense <;> cases notify <;> decide

theorem parseTerms_bytes (ts : List WireTerm) (h : ∀ t ∈ ts, fitsByte t.sect = true) :
    parseTerms (ts.flatMap WireTerm.bytes) = some ts := by
  induction ts with
  | nil => rfl
  | cons t ts ih =>
    obtain ⟨hfirst, hrest⟩ := List.forall_mem_cons.mp h
    obtain ⟨hflags, hsense, hnotify⟩ := flagsNumber_read t.sense t.notify
    change parseTerms (byte t.sect :: byte (flagsNumber t.sense t.notify) :: ts.flatMap WireTerm.bytes) = _
    unfold parseTerms
    rw [if_pos hflags, ih hrest, hsense, hnotify, toNat_byte_of_fits hfirst]
    rfl

/-- A flags byte of at most 3 is the flags number of what it reads as (R33, R170). -/
theorem flagsNumber_of_byte {f : Byte} (h : f.toNat ≤ 3) :
    byte (flagsNumber (if f.toNat % 2 = 0 then .inOnN else .inOnR) (decide (2 ≤ f.toNat))) = f := by
  rw [← byte_toNat f]
  generalize f.toNat = n at h
  obtain rfl | rfl | rfl | rfl : n = 0 ∨ n = 1 ∨ n = 2 ∨ n = 3 := by omega
  all_goals rfl

theorem bytes_of_parseTerms {rest : List Byte} {ts : List WireTerm} (h : parseTerms rest = some ts) :
    rest = ts.flatMap WireTerm.bytes ∧ ∀ t ∈ ts, fitsByte t.sect = true := by
  induction rest using parseTerms.induct generalizing ts with
  | case1 => obtain rfl := Option.some.inj h; exact ⟨rfl, fun t ht => absurd ht List.not_mem_nil⟩
  | case2 => cases h
  | case3 k f rest hf ih =>
    unfold parseTerms at h
    rw [if_pos hf] at h
    obtain ⟨ts', hts, rfl⟩ := Option.map_eq_some_iff.mp h
    obtain ⟨hbytes, hfits⟩ := ih hts
    refine ⟨?_, List.forall_mem_cons.mpr ⟨byte_fits k, hfits⟩⟩
    rw [List.flatMap_cons, ← hbytes, WireTerm.bytes, byte_toNat, flagsNumber_of_byte hf]
    rfl
  | case4 k f rest hf =>
    unfold parseTerms at h
    rw [if_neg hf] at h
    cases h

theorem bytes_length (ts : List WireTerm) : (ts.flatMap WireTerm.bytes).length = 2 * ts.length := by
  induction ts with
  | nil => rfl
  | cons t ts ih => rw [List.flatMap_cons, List.length_append, ih, List.length_cons, WireTerm.bytes]; simp; omega

theorem wireTermsFit_iff (ts : List WireTerm) :
    wireTermsFit ts = true ↔ ts.length ≤ 28 ∧ ∀ t ∈ ts, fitsByte t.sect = true := by
  unfold wireTermsFit
  rw [Bool.and_eq_true, decide_eq_true_iff, List.all_eq_true]

/-! ### Service requests -/

theorem parseSvc_mapEntry {d : Nat} {ts : List WireTerm} (hd : fitsByte d = true) (hts : wireTermsFit ts = true) :
    parseSvc 0x24#8 (svcPayload (.mapEntry d ts)) = some (.mapEntry d ts) := by
  obtain ⟨hlength, hfits⟩ := (wireTermsFit_iff ts).mp hts
  have hcount : (byte ts.length).toNat = ts.length := toNat_byte (by omega)
  change (if (ts.flatMap WireTerm.bytes).length = 2 * (byte ts.length).toNat then
    (parseTerms (ts.flatMap WireTerm.bytes)).map fun us => SvcRequest.mapEntry (byte d).toNat us else none) = _
  rw [if_pos (by rw [bytes_length, hcount]), parseTerms_bytes ts hfits, toNat_byte_of_fits hd]
  rfl

theorem parseSvc_payload (r : SvcRequest) (h : svcFits r = true) : parseSvc (svcKind r) (svcPayload r) = some r := by
  cases r with
  | loadBegin | loadStatus | loadEnd | restart | haltRead => rfl
  | loadIndex t i =>
    obtain ⟨ht, hi⟩ := Bool.and_eq_true_iff.mp h
    exact congrArg₂ (fun a b => some (SvcRequest.loadIndex a b)) (toNat_byte_of_fits ht) (toNat_byte_of_fits hi)
  | mapEntry d ts =>
    obtain ⟨hd, hts⟩ := Bool.and_eq_true_iff.mp h
    exact parseSvc_mapEntry hd hts
  | sectionEntry a b c d =>
    simp only [svcFits, Bool.and_eq_true] at h
    obtain ⟨⟨⟨ha, hb⟩, hc⟩, hd⟩ := h
    change some (SvcRequest.sectionEntry (byte a).toNat (byte b).toNat (byte c).toNat (byte d).toNat) = _
    rw [toNat_byte_of_fits ha, toNat_byte_of_fits hb, toNat_byte_of_fits hc, toNat_byte_of_fits hd]
  | globalEntry g p q =>
    simp only [svcFits, Globals.fitsBytes, LinkParams.fitsBytes, Bool.and_eq_true] at h
    obtain ⟨⟨⟨⟨⟨⟨⟨⟨⟨⟨⟨h1, h2⟩, h3⟩, h4⟩, h5⟩, h6⟩, h7⟩, h8⟩, h9⟩, h10⟩, hp1, hp2⟩, hq1, hq2⟩ := h
    change some (SvcRequest.globalEntry
      ⟨(byte g.settleBase).toNat, (byte g.qual).toNat, (byte g.minPassage).toNat, (byte g.minFree).toNat, (byte g.glitchLimit).toNat,
        (byte g.recovery).toNat, (byte g.concurWindow).toNat, (byte g.histExp).toNat, (byte g.softLimit).toNat, (byte g.scrubPeriod).toNat⟩
      ⟨(byte p.lineRate).toNat, (byte p.reportExp).toNat⟩ ⟨(byte q.lineRate).toNat, (byte q.reportExp).toNat⟩) = _
    simp only [toNat_byte_of_fits, h1, h2, h3, h4, h5, h6, h7, h8, h9, h10, hp1, hp2, hq1, hq2]
  | headRead d => exact congrArg (fun n => some (SvcRequest.headRead n)) (toNat_byte_of_fits h)

/-- A kind outside the range of the service link has no payload (R164, R165). -/
theorem parseSvc_of_outside {kind : Byte} (payload : List Byte) (h : kind.toNat < 0x21 ∨ 0x2A < kind.toNat) : parseSvc kind payload = none := by
  have hlt : kind.toNat < 256 := kind.isLt
  unfold parseSvc
  generalize kind.toNat = n at h hlt
  obtain hlow | hhigh := h
  · interval_cases n
    all_goals rfl
  · interval_cases n
    all_goals rfl

theorem parseSvc_kind {kind : Byte} {payload : List Byte} {r : SvcRequest} (h : parseSvc kind payload = some r) :
    kind = 0x21#8 ∨ kind = 0x22#8 ∨ kind = 0x23#8 ∨ kind = 0x24#8 ∨ kind = 0x25#8 ∨ kind = 0x26#8 ∨ kind = 0x27#8 ∨ kind = 0x28#8 ∨
      kind = 0x29#8 ∨ kind = 0x2A#8 := by
  by_contra hno
  simp only [not_or, ← BitVec.toNat_inj] at hno
  have houtside : kind.toNat < 0x21 ∨ 0x2A < kind.toNat := by simp at hno; omega
  exact Option.some_ne_none r (h.symm.trans (parseSvc_of_outside payload houtside))

/-- A MAP_ENTRY payload carries its term count and as many terms (R170). -/
theorem payload_of_mapEntry {d n : Byte} {rest : List Byte} {r : SvcRequest} (hlen : rest.length ≤ 57)
    (h : parseSvc 0x24#8 (d :: n :: rest) = some r) :
    svcFits r = true ∧ 0x24#8 = svcKind r ∧ d :: n :: rest = svcPayload r := by
  change (if rest.length = 2 * n.toNat then (parseTerms rest).map fun ts => SvcRequest.mapEntry d.toNat ts else none) = some r at h
  split at h
  case isFalse => cases h
  case isTrue hcount =>
    obtain ⟨ts, hts, rfl⟩ := Option.map_eq_some_iff.mp h
    obtain ⟨hbytes, hfits⟩ := bytes_of_parseTerms hts
    have hlength : rest.length = 2 * ts.length := by rw [hbytes, bytes_length]
    have hterms : ts.length = n.toNat := by omega
    refine ⟨Bool.and_eq_true_iff.mpr ⟨byte_fits d, (wireTermsFit_iff ts).mpr ⟨by omega, hfits⟩⟩, rfl, ?_⟩
    rw [svcPayload, byte_toNat, hterms, byte_toNat]
    exact congrArg (fun xs => d :: n :: xs) hbytes

/-- A GLOBAL_ENTRY payload is fourteen bytes (R170). -/
theorem payload_of_globalEntry {payload : List Byte} {r : SvcRequest} (h : parseSvc 0x26#8 payload = some r) :
    svcFits r = true ∧ 0x26#8 = svcKind r ∧ payload = svcPayload r := by
  rcases payload with _ | ⟨a, _ | ⟨b, _ | ⟨c, _ | ⟨d, _ | ⟨e, _ | ⟨f, _ | ⟨g, _ | ⟨x, _ | ⟨i, _ | ⟨j, _ | ⟨r0, _ | ⟨e0, _ | ⟨r1, _ | ⟨e1,
    _ | ⟨_, _⟩⟩⟩⟩⟩⟩⟩⟩⟩⟩⟩⟩⟩⟩⟩ <;> cases h
  refine ⟨?_, rfl, ?_⟩
  · simp only [svcFits, Globals.fitsBytes, LinkParams.fitsBytes, byte_fits, Bool.and_self]
  · simp only [svcPayload, Globals.toList, List.cons_append, List.nil_append, List.map_cons, List.map_nil, byte_toNat]

theorem payload_of_parseSvc {kind : Byte} {payload : List Byte} {r : SvcRequest} (hlen : payload.length ≤ 59)
    (h : parseSvc kind payload = some r) : svcFits r = true ∧ kind = svcKind r ∧ payload = svcPayload r := by
  obtain rfl | rfl | rfl | rfl | rfl | rfl | hkind := parseSvc_kind h
  case inl | inr.inl =>
    rcases payload with _ | ⟨_, _⟩ <;> cases h
    exact ⟨rfl, rfl, rfl⟩
  case inr.inr.inl =>
    rcases payload with _ | ⟨t, _ | ⟨i, _ | ⟨_, _⟩⟩⟩ <;> cases h
    exact ⟨Bool.and_eq_true_iff.mpr ⟨byte_fits t, byte_fits i⟩, rfl, by rw [svcPayload, byte_toNat, byte_toNat]⟩
  case inr.inr.inr.inl =>
    rcases payload with _ | ⟨d, _ | ⟨n, rest⟩⟩
    · cases h
    · cases h
    · exact payload_of_mapEntry (by simp only [List.length_cons] at hlen; omega) h
  case inr.inr.inr.inr.inl =>
    rcases payload with _ | ⟨a, _ | ⟨b, _ | ⟨c, _ | ⟨d, _ | ⟨_, _⟩⟩⟩⟩⟩ <;> cases h
    refine ⟨?_, rfl, by simp only [svcPayload, byte_toNat]⟩
    simp only [svcFits, byte_fits, Bool.and_self]
  case inr.inr.inr.inr.inr.inl => exact payload_of_globalEntry h
  obtain rfl | rfl | rfl | rfl := hkind
  · rcases payload with _ | ⟨_, _⟩ <;> cases h
    exact ⟨rfl, rfl, rfl⟩
  · rcases payload with _ | ⟨_, _⟩ <;> cases h
    exact ⟨rfl, rfl, rfl⟩
  · rcases payload with _ | ⟨d, _ | ⟨_, _⟩⟩ <;> cases h
    exact ⟨byte_fits d, rfl, by rw [svcPayload, byte_toNat]⟩
  · rcases payload with _ | ⟨_, _⟩ <;> cases h
    exact ⟨rfl, rfl, rfl⟩

/-- Settles O47: both checks read back what is laid out, and what they read is laid out so. -/
theorem payloadsReadBack : Obligations.PayloadsReadBack :=
  ⟨parseSup_payload, parseSvc_payload, fun _ _ _ h => payload_of_parseSup h, fun _ _ _ hlen h => payload_of_parseSvc hlen h⟩

end Sys2Proof.Machine
end

section
/-! PROOFS. What a line makes of the end of a telegram and of a request that finds the slot occupied (R163 to R166). -/

namespace Sys2Proof.Machine

/-! ### Writing a line twice -/

theorem setLine_line (s : State) (l : Link) : s.setLine l (s.line l) = s := by
  cases l with
  | sup l => exact setSup_sup s l
  | svl => rfl

theorem setLine_setLine (s : State) (l : Link) (x y : Line) : (s.setLine l x).setLine l y = s.setLine l y := by
  rcases l with (l | l) | _ <;> rfl

/-! ### The end of a telegram -/

/-- A line's receiver at the end of a telegram (R163). -/
def State.restRx (s : State) (l : Link) : State := s.setLine l { s.line l with rx := .idle }

theorem restRx_line (s : State) (l : Link) : (s.restRx l).line l = { s.line l with rx := .idle } := line_setLine_same s l _

/-- Whether a request of a link is handed on and not yet taken (log 6). -/
def State.handedOn (s : State) (l : Link) : Bool :=
  match l with
  | .sup m => (s.sup m).handed.isSome
  | .svl => s.lcs.handed.isSome

theorem handedOn_restRx (s : State) (l : Link) : (s.restRx l).handedOn l = s.handedOn l := by
  rcases l with (l | l) | _ <;> rfl

theorem endTelegram_idle {s : State} {l : Link} (h : (s.line l).rx = .idle) : s.endTelegram l = s := by
  unfold State.endTelegram
  rw [h]

theorem endTelegram_discarding {s : State} {l : Link} (h : (s.line l).rx = .discarding) : s.endTelegram l = (s.restRx l).reject l := by
  unfold State.endTelegram
  rw [h]
  rfl

theorem endTelegram_rejected {s : State} {l : Link} {bytes : List Byte} (h : (s.line l).rx = .receiving bytes)
    (hbytes : acceptTelegram l bytes = none) : s.endTelegram l = (s.restRx l).reject l := by
  unfold State.endTelegram State.judgeTelegram
  rw [h]
  simp only [hbytes]
  rfl

/-- What a link's controller does with a request it accepts (R165, R166). -/
def State.acceptOn (s : State) (l : Link) (kind : Byte) (payload : List Byte) : State :=
  match l with
  | .sup m => s.acceptSup m kind payload
  | .svl => s.acceptSvc kind payload

theorem endTelegram_accepted {s : State} {l : Link} {bytes : List Byte} {kind : Byte} {payload : List Byte}
    (h : (s.line l).rx = .receiving bytes) (hbytes : acceptTelegram l bytes = some (kind, payload)) :
    s.endTelegram l = (s.restRx l).acceptOn l kind payload := by
  unfold State.endTelegram State.judgeTelegram
  rw [h]
  simp only [hbytes]
  cases l <;> rfl

theorem reject_eq (s : State) (l : Link) :
    s.reject l = match l with
      | .sup m => (s.setLine l { s.line l with lineFault := true }).setSup m
          (((s.setLine l { s.line l with lineFault := true }).sup m).setNotice .lineFault)
      | .svl => s.setLine l { s.line l with lineFault := true } := by
  cases l <;> rfl

theorem reject_restRx (s : State) (l : Link) :
    (s.restRx l).reject l = match l with
      | .sup m => (s.setLine l { s.line l with rx := .idle, lineFault := true }).setSup m
          (((s.setLine l { s.line l with rx := .idle, lineFault := true }).sup m).setNotice .lineFault)
      | .svl => s.setLine l { s.line l with rx := .idle, lineFault := true } := by
  rw [reject_eq, restRx_line]
  unfold State.restRx
  rw [setLine_setLine]

theorem overrunOn_restRx (s : State) (l : Link) :
    (s.restRx l).overrunOn l = s.setLine l { s.line l with rx := .idle, overrun := true } := by
  unfold State.overrunOn
  rw [restRx_line]
  exact setLine_setLine s l _ _

section
variable {s : State} {l : SupLink} {kind : Byte} {payload : List Byte}

theorem acceptSup_busy (h : (s.sup l).line.slot.isSome = true ∨ (s.sup l).handed.isSome = true) :
    s.acceptSup l kind payload = s.overrunOn (.sup l) := if_pos (by simpa using h.symm)

theorem acceptSup_free (h : ¬ ((s.sup l).line.slot.isSome = true ∨ (s.sup l).handed.isSome = true)) :
    s.acceptSup l kind payload = match parseSup kind payload with
      | none => s.malformed (.sup l) kind
      | some r => s.setSup l { s.sup l with handed := some r } := if_neg (by simpa [and_comm] using h)

theorem acceptSvc_busy (h : s.lcs.line.slot.isSome = true ∨ s.lcs.handed.isSome = true) :
    s.acceptSvc kind payload = s.overrunOn .svl := if_pos (by simpa using h.symm)

theorem acceptSvc_free (h : ¬ (s.lcs.line.slot.isSome = true ∨ s.lcs.handed.isSome = true)) :
    s.acceptSvc kind payload = match parseSvc kind payload with
      | none => s.malformed .svl kind
      | some r => { s with lcs := { s.lcs with handed := some r } } := if_neg (by simpa [and_comm] using h)

end

/-- A request that finds the slot occupied, or another handed on, is not acted on (R166). -/
theorem endTelegram_busy {s : State} {l : Link} {bytes : List Byte} {kind : Byte} {payload : List Byte}
    (h : (s.line l).rx = .receiving bytes) (hbytes : acceptTelegram l bytes = some (kind, payload))
    (hbusy : (s.line l).slot.isSome = true ∨ s.handedOn l = true) :
    s.endTelegram l = s.setLine l { s.line l with rx := .idle, overrun := true } := by
  rw [endTelegram_accepted h hbytes, ← overrunOn_restRx]
  have hslot : ((s.restRx l).line l).slot = (s.line l).slot := by rw [restRx_line]
  rw [← hslot, ← handedOn_restRx] at hbusy
  cases l with
  | sup m => exact acceptSup_busy hbusy
  | svl => exact acceptSvc_busy hbusy

/-- Settles O48, by the state of the receiver, and for an accepted telegram by the slot and by the payload check. -/
theorem telegramEndResult : Obligations.TelegramEndResult := by
  intro s l x idle rejected rejects busy
  have hrejects (h : s.endTelegram l = (s.restRx l).reject l) : rejects :=
    congrArg Host.Outcome.next (h.trans (reject_restRx s l))
  have hfree (hbusy : ¬ busy) : ¬ (((s.restRx l).line l).slot.isSome = true ∨ (s.restRx l).handedOn l = true) := by
    rw [restRx_line, handedOn_restRx]
    exact hbusy
  refine ⟨fun h => congrArg Host.Outcome.next (endTelegram_idle h), fun h => hrejects (endTelegram_discarding h),
    fun bytes h => ⟨fun hnone => hrejects (endTelegram_rejected h hnone), fun kind payload haccepted =>
      ⟨fun hbusy => congrArg Host.Outcome.next (endTelegram_busy h haccepted hbusy), fun hbusy => ?_⟩⟩⟩
  have hend : exec (.telegramEnd l) s = .next ((s.restRx l).acceptOn l kind payload) :=
    congrArg Host.Outcome.next (endTelegram_accepted h haccepted)
  cases l with
  | sup m =>
    refine ⟨fun hparse => hend.trans ?_, fun r hparse => hend.trans ?_⟩
    all_goals
      rw [State.acceptOn, acceptSup_free (hfree hbusy), hparse]
      rfl
  | svl =>
    refine ⟨fun hparse => hend.trans ?_, fun r hparse => hend.trans ?_⟩
    all_goals
      rw [State.acceptOn, acceptSvc_free (hfree hbusy), hparse]
      rfl

/-! ### A request that finds the slot occupied -/

/-- Every request of a supervisory link is taken whole by its owner (R165). -/
theorem exec_supCommand (s : State) (l : SupLink) (r : SupRequest) :
    ∃ owner, exec (supCommand l r) s = .next (s.takeSup l r owner) := by
  cases r <;> exact ⟨_, rfl⟩

/-- Every request of the service link is taken whole by its owner (R165). -/
theorem exec_svcCommand (s : State) (key : Bool) (r : SvcRequest) :
    ∃ owner, exec (svcCommand key r) s = .next (s.takeSvc r owner) := by
  cases r <;> exact ⟨_, rfl⟩

/-- Settles O49: every request is taken by the shared operation, which is frozen to overrun. -/
theorem overrunResult : Obligations.OverrunResult := by
  refine ⟨fun s l r hother hbusy => ?_, fun s key r hother hbusy => ?_⟩
  · obtain ⟨owner, hexec⟩ := exec_supCommand s l r
    rw [hexec, takeSup_overrun s l r owner hother hbusy]
    rfl
  · obtain ⟨owner, hexec⟩ := exec_svcCommand s key r
    rw [hexec, takeSvc_overrun s r owner hother hbusy]
    rfl

end Sys2Proof.Machine
end

section
/-! PROOFS. What the transmitters start, when they end, and the rates the directions take (R108, R159, R166, R167, R171, R173, R178). -/

namespace Sys2Proof.Machine

/-! ### The rates -/

theorem targetRate_eq (s : State) (l : SupLink) :
    s.targetRate l = if s.inForce = none then 19200 else rateOf (s.image.params l).lineRate := by
  unfold State.targetRate
  cases s.inForce <;> rfl

section
variable {s : State} {l : SupLink}

theorem settleRxRate_idle (h : (s.line (.sup l)).rx = .idle) :
    s.settleRxRate (.sup l) = s.setLine (.sup l) { s.line (.sup l) with rxRate := s.targetRate l } := if_pos h

theorem settleRxRate_busy (h : (s.line (.sup l)).rx ≠ .idle) : s.settleRxRate (.sup l) = s := if_neg h

theorem settleTxRate_idle (h : (s.line (.sup l)).tx = .idle) :
    s.settleTxRate (.sup l) = s.setLine (.sup l) { s.line (.sup l) with txRate := s.targetRate l } := if_pos h

theorem settleTxRate_busy (h : (s.line (.sup l)).tx ≠ .idle) : s.settleTxRate (.sup l) = s := if_neg h

end

/-! ### The ends -/

theorem sent_of_not_sending {tx : Transmitter} (h : ∀ b, tx ≠ .sending b) : tx.sent = tx := by
  cases tx with
  | idle | gap => rfl
  | sending b => exact absurd rfl (h b)

theorem gapOver_of_not_gap {tx : Transmitter} (h : tx ≠ .gap) : tx.gapOver = tx := by
  cases tx with
  | idle | sending b => rfl
  | gap => exact absurd rfl h

theorem endTransmit_sending {s : State} {l : Link} {b : List Character} (h : (s.line l).tx = .sending b) :
    s.endTransmit l = s.setLine l { s.line l with tx := .gap } := by
  unfold State.endTransmit
  rw [h]
  rfl

theorem endTransmit_not_sending {s : State} {l : Link} (h : ∀ b, (s.line l).tx ≠ .sending b) : s.endTransmit l = s := by
  unfold State.endTransmit
  rw [sent_of_not_sending h]
  exact setLine_line s l

theorem endGap_gap {s : State} {l : Link} (h : (s.line l).tx = .gap) : s.endGap l = s.setLine l { s.line l with tx := .idle } := by
  unfold State.endGap
  rw [h]
  rfl

theorem endGap_not_gap {s : State} {l : Link} (h : (s.line l).tx ≠ .gap) : s.endGap l = s := by
  unfold State.endGap
  rw [gapOver_of_not_gap h]
  exact setLine_line s l

/-- Settles O51, by the state of the transmitter, and of the direction that is to take the rate. -/
theorem endsAndRates : Obligations.EndsAndRates := by
  refine ⟨fun s l => ⟨fun b h => congrArg Host.Outcome.next (endTransmit_sending h),
    fun h => congrArg Host.Outcome.next (endTransmit_not_sending h), fun h => congrArg Host.Outcome.next (endGap_gap h),
    fun h => congrArg Host.Outcome.next (endGap_not_gap h)⟩, ?_⟩
  intro s l x rate
  have hrate : s.targetRate l = rate := targetRate_eq s l
  refine ⟨fun h => ?_, fun h => congrArg Host.Outcome.next (settleRxRate_busy h), fun h => ?_,
    fun h => congrArg Host.Outcome.next (settleTxRate_busy h)⟩
  · rw [← hrate]
    exact congrArg Host.Outcome.next (settleRxRate_idle h)
  · rw [← hrate]
    exact congrArg Host.Outcome.next (settleTxRate_idle h)

/-! ### The contents of the telegrams -/

/-- The link flags are two bits of one byte (R166, R171). -/
theorem flagsByte_eq (x : Line) :
    x.flagsByte = (if x.overrun = true then 1#8 else 0#8) + if x.lineFault = true then 2#8 else 0#8 := by
  unfold Line.flagsByte
  cases x.overrun <;> cases x.lineFault <;> rfl

/-- Sixteen bits as two bytes, high byte first (R161). -/
theorem bytes16_eq (x : BitVec 16) : bytes16 x = [byte (x.toNat / 256), byte x.toNat] := by
  have h := bytes16_ofNat x.toNat
  rwa [BitVec.ofNat_toNat, BitVec.setWidth_eq] at h

theorem bytes16_notices (x : BitVec 10) : bytes16 (x.setWidth 16) = [byte (x.toNat / 256), byte x.toNat] := by
  rw [bytes16_eq, BitVec.toNat_setWidth_of_le (by omega)]

/-- The state byte holds the state code and, of a pending record, that it is there, its kind and its opener (R108, R171). -/
theorem stateByte_eq (s : State) (l : SupLink) (k : SectNo) :
    s.stateByte l k = byte (s.sects[k].state.code + match s.records[k] with
      | none => 0
      | some r => 8 + (match r.kind with | .prep => 16 | .direct => 32) + if r.opener = l then 64 else 0) := by
  unfold State.stateByte
  cases s.records[k] with
  | none => rfl
  | some r =>
    have hbits : 8 + 16 * kindCode r.kind = 8 + match r.kind with | .prep => 16 | .direct => 32 := by cases r.kind <;> rfl
    have hsum (c n m o : Nat) (h : 8 + 16 * n = 8 + m) : c + 8 + 16 * n + o = c + (8 + m + o) := by omega
    exact congrArg byte (hsum _ _ _ _ hbits)

theorem eventBytes_eq (r : EventRecord) :
    eventBytes r = [r.seq, byte r.dp.val, (match r.dir with | .n => 0#8 | .r => 1#8), byte (r.stamp.toNat / 256), byte r.stamp.toNat] := by
  unfold eventBytes
  rw [bytes16_eq]
  cases r.dir <;> rfl

/-! ### The starts -/

/-- The rate a transmitter found IDLE starts at; the service line has one rate (R159). -/
def State.startRate (s : State) (l : Link) : Nat :=
  match l with
  | .sup m => s.targetRate m
  | .svl => (s.line l).txRate

theorem settleTxRate_start {s : State} {l : Link} (h : (s.line l).tx = .idle) :
    s.settleTxRate l = s.setLine l { s.line l with txRate := s.startRate l } := by
  cases l with
  | sup m => exact settleTxRate_idle h
  | svl => exact (setLine_line s .svl).symm

theorem startResponse_idle {s : State} {l : Link} {r : Response} (htx : (s.line l).tx = .idle) (hslot : (s.line l).slot = some r) :
    s.startResponse l = s.setLine l
      { s.line l with
        tx := .sending (sentCharacters (responseBytes (s.line l) r))
        txRate := s.startRate l
        slot := none
        overrun := false
        lineFault := false } := by
  unfold State.startResponse
  rw [settleTxRate_start htx, htx, hslot]
  simp only [line_setLine_same, setLine_setLine]
  rfl

theorem startResponse_waits {s : State} {l : Link} (h : (s.line l).tx ≠ .idle ∨ (s.line l).slot = none) : s.startResponse l = s := by
  unfold State.startResponse
  obtain h | h := h
  · cases htx : (s.line l).tx with
    | idle => exact absurd htx h
    | sending b | gap => rfl
  · rw [h]
    cases (s.line l).tx <;> rfl

theorem settleTxRate_sup {s : State} {l : SupLink} (h : (s.sup l).line.tx = .idle) :
    s.settleTxRate (.sup l) = s.setSup l { s.sup l with line := { (s.sup l).line with txRate := s.targetRate l } } := if_pos h

/-- A STATUS telegram does not tell the rate it is sent at. -/
theorem statusPayload_line (s : State) (l : SupLink) (rate : Nat) :
    (s.setSup l { s.sup l with line := { (s.sup l).line with txRate := rate } }).statusPayload l = s.statusPayload l := by
  cases l <;> rfl

theorem statusPayload_eq (s : State) (l : SupLink) :
    s.statusPayload l = byte s.mode.code :: byte ((s.sup l).notices.toNat / 256) :: byte (s.sup l).notices.toNat :: (s.sup l).line.flagsByte ::
      ((List.finRange 24).filter (s.supervises l)).flatMap fun k => [byte k.val, s.stateByte l k] := by
  unfold State.statusPayload
  rw [bytes16_notices]
  rfl

theorem startStatus_due {s : State} {l : SupLink} (htx : (s.sup l).line.tx = .idle) (hslot : (s.sup l).line.slot = none)
    (hdue : (s.sup l).statusDue = true) :
    s.startStatus l = s.setSup l { s.sup l with
      statusDue := false
      line := { (s.sup l).line with
        tx := .sending (sentCharacters (telegram 0x81#8 (s.statusPayload l)))
        txRate := s.targetRate l
        overrun := false
        lineFault := false } } := by
  unfold State.startStatus
  rw [if_pos ⟨htx, hslot, hdue⟩, settleTxRate_sup htx]
  simp only [sup_setSup_same, setSup_setSup, statusPayload_line]
  rfl

theorem startStatus_waits {s : State} {l : SupLink}
    (h : (s.sup l).line.tx ≠ .idle ∨ (s.sup l).line.slot ≠ none ∨ (s.sup l).statusDue = false) : s.startStatus l = s :=
  if_neg fun ⟨htx, hslot, hdue⟩ => by simp [htx, hslot, hdue] at h

theorem eventsPayload_eq (x : Sup) :
    eventsPayload x = (if x.gap = true then 1#8 else 0#8) :: byte (min 6 x.ring.length) ::
      (x.ring.take 6).flatMap fun r => [r.seq, byte r.dp.val, (match r.dir with | .n => 0#8 | .r => 1#8),
        byte (r.stamp.toNat / 256), byte r.stamp.toNat] := by
  have hbytes := List.flatMap_congr (l := x.ring.take 6) fun r _ => eventBytes_eq r
  unfold eventsPayload eventsTaken
  simp only [List.length_take, hbytes]
  cases x.gap <;> rfl

theorem startEvents_due {s : State} {l : SupLink} (htx : (s.sup l).line.tx = .idle) (hslot : (s.sup l).line.slot = none)
    (hdue : (s.sup l).statusDue = false) (hring : (s.sup l).ring ≠ []) :
    s.startEvents l = s.setSup l { s.sup l with
      ring := (s.sup l).ring.drop 6
      gap := false
      line := { (s.sup l).line with
        tx := .sending (sentCharacters (telegram 0x83#8 (eventsPayload (s.sup l))))
        txRate := s.targetRate l } } := by
  unfold State.startEvents
  rw [if_pos ⟨htx, hslot, hdue, hring⟩, settleTxRate_sup htx]
  simp only [sup_setSup_same, setSup_setSup]
  rfl

theorem startEvents_waits {s : State} {l : SupLink}
    (h : (s.sup l).line.tx ≠ .idle ∨ (s.sup l).line.slot ≠ none ∨ (s.sup l).statusDue = true ∨ (s.sup l).ring = []) :
    s.startEvents l = s :=
  if_neg fun ⟨htx, hslot, hdue, hring⟩ => by simp [htx, hslot, hdue, hring] at h

/-- Settles O50, telegram by telegram: what starts, and when nothing does. -/
theorem transmitStarts : Obligations.TransmitStarts := by
  refine ⟨fun s l => ?_, fun s l => ?_⟩
  · intro x rate flags
    have hrate : s.startRate l = rate := by cases l <;> rfl
    have hflags : x.flagsByte = flags := flagsByte_eq x
    refine ⟨fun r htx hslot => ?_, fun h => congrArg Host.Outcome.next (startResponse_waits h)⟩
    rw [← hrate, ← hflags]
    exact congrArg Host.Outcome.next (startResponse_idle htx hslot)
  · intro x flags pair
    have hpayload : s.statusPayload l = byte s.mode.code :: byte (x.notices.toNat / 256) :: byte x.notices.toNat :: flags ::
        ((List.finRange 24).filter (s.supervises l)).flatMap pair := by
      rw [statusPayload_eq, flagsByte_eq, List.flatMap_congr fun k _ => congrArg (fun b => [byte k.val, b]) (stateByte_eq s l k)] <;> rfl
    refine ⟨fun htx hslot hdue => ?_, fun h => congrArg Host.Outcome.next (startStatus_waits h),
      fun htx hslot hdue hring => ?_, fun h => congrArg Host.Outcome.next (startEvents_waits h)⟩
    · rw [← hpayload]
      exact congrArg Host.Outcome.next (startStatus_due htx hslot hdue)
    · refine (congrArg Host.Outcome.next (startEvents_due htx hslot hdue hring)).trans ?_
      rw [eventsPayload_eq] <;> rfl

end Sys2Proof.Machine
end

section
/-! PROOFS. What the controllers make of notices, of the attention line and of their rings (R56, R174 to R177, R179). -/

namespace Sys2Proof.Machine

/-! ### One notice's bit -/

/-- A bit of a word stands where the word masked by that bit is not 0. -/
theorem getLsbD_iff_and_bit (x : BitVec 10) {i : Nat} (hi : i < 10) : x.getLsbD i = true ↔ x &&& (1#10 <<< i) ≠ 0#10 := by
  have hbit (j : Nat) (hj : j < 10) : (1#10 <<< i).getLsbD j = decide (j = i) := by
    rw [BitVec.getLsbD_shiftLeft]
    by_cases h : j = i
    · simp [h, hi]
    · simp [h, hj]
      omega
  constructor
  · intro h hzero
    have := congrArg (fun y => BitVec.getLsbD y i) hzero
    simp [hbit i hi, h] at this
  · intro h
    by_contra hclear
    refine h (BitVec.eq_of_getLsbD_eq fun j hj => ?_)
    rw [BitVec.getLsbD_and, hbit j hj]
    by_cases hji : j = i
    · rw [hji, Bool.eq_false_of_not_eq_true hclear, Bool.false_and, BitVec.getLsbD_zero]
    · simp [hji]

theorem noticeBit_lt (n : Notice) : noticeBit n < 10 := by cases n <;> decide

theorem noticed_iff (x : Sup) (n : Notice) : x.noticed n = true ↔ x.notices &&& (1#10 <<< noticeBit n) ≠ 0#10 :=
  getLsbD_iff_and_bit x.notices (noticeBit_lt n)

theorem not_noticed_iff (x : Sup) (n : Notice) : x.noticed n = false ↔ x.notices &&& (1#10 <<< noticeBit n) = 0#10 := by
  rw [← Bool.not_eq_true, noticed_iff, not_not]

theorem masked_iff (x : Sup) (n : Notice) : x.masked n = true ↔ x.mask &&& (1#10 <<< noticeBit n) ≠ 0#10 :=
  getLsbD_iff_and_bit x.mask (noticeBit_lt n)

/-! ### Notices taken, acknowledged and masked -/

theorem takeAsked_none {s : State} {l : SupLink} {n : Notice} (h : n ∉ (s.sup l).asked) : s.takeAsked l n = s := if_neg h

theorem takeAsked_some {s : State} {l : SupLink} {n : Notice} (h : n ∈ (s.sup l).asked) :
    s.takeAsked l n = s.setSup l (({ s.sup l with asked := (s.sup l).asked.erase n } : Sup).setNotice n) := if_pos h

/-- The bits of a mask that name notices are its low ten (R175). -/
theorem extractLsb'_low (mask : BitVec 16) : mask.extractLsb' 0 10 = mask.truncate 10 := by
  apply BitVec.eq_of_getLsbD_eq
  intro i hi
  rw [BitVec.getLsbD_extractLsb', BitVec.getLsbD_setWidth, Nat.zero_add]

theorem ackNotices_eq (mask : BitVec 16) (x : Sup) :
    x.ackNotices mask = { x with
      notices := x.notices &&& ~~~ (mask.truncate 10)
      attn := if x.attnMode = .level then decide (x.notices &&& ~~~ (mask.truncate 10) &&& x.mask ≠ 0#10) else x.attn } := by
  unfold Sup.ackNotices Sup.follow
  rw [extractLsb'_low]
  obtain hmode | hmode : x.attnMode = .level ∨ x.attnMode = .pulse := by cases x.attnMode <;> simp
  · simp [hmode]
  · simp [hmode]

theorem takeMask_eq (mask : BitVec 16) (a : Nat) (x : Sup) :
    x.takeMask mask a = { x with
      mask := mask.truncate 10
      attnMode := if a = 0 then .level else .pulse
      pulse := none
      attn := if a = 0 then decide (x.notices &&& mask.truncate 10 ≠ 0#10) else false } := by
  unfold Sup.takeMask Sup.follow
  rw [extractLsb'_low]
  by_cases h : a = 0 <;> simp [h]

theorem endPulse_over {x : Sup} {e : Nat} (hpulse : x.pulse = some e) (hover : 10 ≤ e) :
    x.endPulse = { x with pulse := none, attn := false } := by
  unfold Sup.endPulse
  rw [hpulse]
  exact if_pos hover

theorem endPulse_running {x : Sup} (h : ∀ e, x.pulse = some e → e < 10) : x.endPulse = x := by
  unfold Sup.endPulse
  cases hpulse : x.pulse with
  | none => rfl
  | some e => exact if_neg (Nat.not_le.mpr (h e hpulse))

theorem takePulseEnd_running {s : State} {l : SupLink} (h : ∀ e, (s.sup l).pulse = some e → e < 10) : s.takePulseEnd l = s := by
  unfold State.takePulseEnd
  rw [endPulse_running h, setSup_sup]

/-- What of a controller a request handed on does not move. -/
theorem unhandSup_sup (s : State) (l : SupLink) : (s.unhandSup l).sup l = { s.sup l with handed := none } := sup_setSup_same s l _

/-- Settles O52: a notice by whether it is asked for, set and masked; the two requests and the end of a pulse by their owners. -/
theorem noticesAndAttention : Obligations.NoticesAndAttention := by
  refine ⟨?_, fun s l m hready => ?_, fun s l m a hready => ?_, fun s l => ⟨fun e hpulse hover => ?_, fun h => ?_⟩⟩
  · intro s l n x bit y taken
    have htake {z : Sup} (hasked : n ∈ (s.sup l).asked) (h : x.setNotice n = z) : taken z :=
      congrArg Host.Outcome.next ((takeAsked_some hasked).trans (congrArg (s.setSup l) h))
    refine ⟨fun h => congrArg Host.Outcome.next (takeAsked_none h), fun hasked =>
      ⟨fun hset => htake hasked (setNotice_of_set n x ((noticed_iff x n).mpr hset)), fun hclear => ?_⟩⟩
    have hnot : x.noticed n = false := (not_noticed_iff x n).mpr hclear
    refine ⟨fun hlevel => htake hasked (setNotice_level n x hnot hlevel), fun hpulse hmask => htake hasked ?_,
      fun hpulse hmask => htake hasked ?_⟩
    · exact (setNotice_pulse n x hnot hpulse).trans (if_pos ((masked_iff x n).mpr hmask))
    · exact (setNotice_pulse n x hnot hpulse).trans (if_neg fun h => (masked_iff x n).mp h hmask)
  · refine exec_sup rfl hready ?_
    rw [ackNotices_eq, unhandSup_sup]
    rfl
  · refine exec_sup rfl hready ?_
    rw [takeMask_eq, unhandSup_sup]
    rfl
  · exact congrArg (fun z => Host.Outcome.next (s.setSup l z)) (endPulse_over hpulse hover)
  · exact congrArg Host.Outcome.next (takePulseEnd_running h)

/-! ### A ring that is offered an event -/

theorem seq_next (b : BitVec 8) : b + 1#8 = BitVec.ofNat 8 (b.toNat + 1) := by
  apply BitVec.eq_of_toNat_eq
  simp [BitVec.toNat_add]

theorem holds_seq_iff (ring : List EventRecord) (b : BitVec 8) : (∃ r ∈ ring, r.seq = b) ↔ b ∈ ring.map (·.seq) :=
  List.mem_map.symm

theorem offer_dropped {x : Sup} {e : AxleEvent} (h : 64 ≤ x.ring.length ∨ x.seq ∈ x.ring.map (·.seq)) :
    x.offer e = Sup.setNotice .ringGap { x with seq := x.seq + 1#8, gap := true } :=
  if_pos (h.imp id (holds_seq_iff x.ring x.seq).mpr)

theorem offer_taken {x : Sup} {e : AxleEvent} (hroom : x.ring.length < 64) (hnew : x.seq ∉ x.ring.map (·.seq)) :
    x.offer e =
      let z : Sup := { x with seq := x.seq + 1#8, ring := x.ring ++ [⟨x.seq, e.dp, e.dir, e.stamp⟩] }
      if x.ring.length = 32 then z.setNotice .ringHalf else z :=
  if_neg (not_or.mpr ⟨Nat.not_le.mpr hroom, fun h => hnew ((holds_seq_iff x.ring x.seq).mp h)⟩)

/-- Settles O53, by whether the ring takes the record and whether it is the 33rd. -/
theorem ringOfferResult : Obligations.RingOfferResult := by
  intro x e
  rw [← seq_next]
  refine ⟨fun hroom hnew hcount => (offer_taken hroom hnew).trans (if_neg hcount),
    fun hcount hnew => (offer_taken (by omega) hnew).trans (if_pos hcount), offer_dropped⟩

end Sys2Proof.Machine
end
